-- ==== Sys2Proof/Word.lean ====
section
/-! DEFINITION. The words, identifiers and plain arithmetic the model is written in (0.6 Conventions): a
byte, a 40-bit byte address, stream numbers, requester tags, the two network paths. -/
namespace Sys2Proof

/-- One byte of a fabric request or response. -/
abbrev Byte := BitVec 8

/-- A byte address (0.6: byte addresses are 40 bits wide). -/
abbrev Addr := BitVec 40

/-- Streams are numbered 0 to 23 (0.6). -/
abbrev StreamId := Fin 24

/-- Requester tags are 0 to 63 (0.6). -/
abbrev Tag := Fin 64

/-- The two network paths (0.6). -/
inductive Path where
  | A
  | B
  deriving DecidableEq, Repr, Inhabited

/-- The top value of the time base and of 64-bit fields (0.6, R105). -/
def top64 : Nat := 2 ^ 64 - 1

/-- The top value of a counter (0.6, R159). -/
def counterTop : Nat := 4294967295

/-- A value clamped into a range (0.6 Clamping). -/
def clamp (lo hi v : Nat) : Nat := max lo (min hi v)

/-- A signed value clamped into a range (0.6 Clamping). -/
def clampInt (lo hi v : Int) : Int := max lo (min hi v)

/-- Division of naturals rounded up (0.6 Division). -/
def ceilDiv (a b : Nat) : Nat := (a + (b - 1)) / b

end Sys2Proof
end

