-- ==== Sys2Proof/Syntax.lean ====
section
/-! DEFINITION. The commands of the block: one constructor of `Instr` for each row of spec/opcode_table.json.
A command is what reaches the block from outside (a request on a port, a command word, an answer of
memory, an edge on a pin) or an event of its own blocks that the table lists as a step. -/
namespace Sys2Proof

/-- What a fabric request asks for (0.6): a read carries its length, a write carries its byte data. -/
inductive Access where
  | read (len : Nat)
  | write (data : List Byte)
  deriving DecidableEq, Repr, Inhabited

/-- A request's length in bytes. -/
def Access.len : Access → Nat
  | .read n => n
  | .write d => d.length

/-- Whether the request is a write. -/
def Access.isWrite : Access → Bool
  | .read _ => false
  | .write _ => true

/-- An answer on a port (0.6, R148): a read's data, the completion of a write, or an error response. -/
inductive Response where
  | data (bytes : List Byte)
  | written
  | error
  deriving DecidableEq, Repr, Inhabited

/-- The three command words at the start of the control region (R138, Table 10-1). -/
inductive CommandWord where
  | select
  | data
  | action
  deriving DecidableEq, Repr, Inhabited

/-- The commands, in the table's order. Event commands name what their event is about: a stream, a path, a
held-read entry by the ticket it was given at arrival, or a request memory has not answered by its place
among the unanswered ones, oldest first, counted from 0. -/
inductive Instr where
  /-- RESET_ASSERT (R149). -/
  | resetAssert
  /-- RESET_RELEASE (R149), with the levels of STRAP[23:0] at the release (R138). -/
  | resetRelease (straps : BitVec 24)
  /-- FILL_REQUEST (R140). -/
  | fillRequest (addr : Addr) (acc : Access)
  /-- PARTIAL_COMMAND_WORD (R141): the command word covered only in part. -/
  | partialCommandWord (word : CommandWord)
  /-- SELECT (R151): the whole 8-byte word. -/
  | select (word : BitVec 64)
  /-- DATA_NO_SELECTION (R152): the value of the DATA word. -/
  | dataNoSelection (value : BitVec 64)
  /-- STREAM_FIELD_WRITE (R2): the value of the DATA word. -/
  | streamFieldWrite (value : BitVec 64)
  /-- CARVE_WRITE (R47): the value of the DATA word. -/
  | carveWrite (value : BitVec 64)
  /-- TAG_WRITE (R143): the value of the DATA word. -/
  | tagWrite (value : BitVec 64)
  /-- PATH_ENABLE_WRITE (R90): the value of the DATA word. -/
  | pathEnableWrite (value : BitVec 64)
  /-- PATH_FIELD_WRITE (R89): the value of the DATA word. -/
  | pathFieldWrite (value : BitVec 64)
  /-- LEAD_WRITE (R118): the value of the DATA word. -/
  | leadWrite (value : BitVec 64)
  /-- REFERENCE_FIELD_WRITE (R107): the value of the DATA word. -/
  | referenceFieldWrite (value : BitVec 64)
  /-- REFERENCE_ENABLE_WRITE (R108): the value of the DATA word. -/
  | referenceEnableWrite (value : BitVec 64)
  /-- MASKS_WRITE (R153): the value of the DATA word. -/
  | masksWrite (value : BitVec 64)
  /-- ARM (R10): the operand byte of the ACTION word. -/
  | arm (operand : BitVec 8)
  /-- STOP (R15): the operand byte of the ACTION word. -/
  | stop (operand : BitVec 8)
  /-- ABORT (R18): the operand byte of the ACTION word. -/
  | abort (operand : BitVec 8)
  /-- ABORT_ALL (R18): the operand byte of the ACTION word. -/
  | abortAll (operand : BitVec 8)
  /-- APPLY (R7): the operand byte of the ACTION word. -/
  | apply (operand : BitVec 8)
  /-- CLEAR_COUNTERS (R155): the operand byte of the ACTION word. -/
  | clearCounters (operand : BitVec 8)
  /-- LOAD_EPOCH (R108): the operand byte of the ACTION word. -/
  | loadEpoch (operand : BitVec 8)
  /-- POST_DEVICE (R155): the operand byte of the ACTION word. -/
  | postDevice (operand : BitVec 8)
  /-- ALIGN_COMPLETION (R26) of a stream. -/
  | alignCompletion (i : StreamId)
  /-- FIRST_FRAME_START (R14) of a stream. -/
  | firstFrameStart (i : StreamId)
  /-- FRAME_START (R23) of a stream. -/
  | frameStart (i : StreamId)
  /-- DRAIN_TIMEOUT (R17) of a stream. -/
  | drainTimeout (i : StreamId)
  /-- SEND_REQUEST (R144): a request presented on the send port. -/
  | sendRequest (tag : Tag) (addr : Addr) (acc : Access)
  /-- STALL (R68): a request waits at the send port. -/
  | stall
  /-- RELEASE_TIME_REACHED (R73) of a held entry. -/
  | releaseTimeReached (ticket : Nat)
  /-- PERMIT_TIME_REACHED (R95) of a held entry. -/
  | permitTimeReached (ticket : Nat)
  /-- PATH_FREE (R91) of a path. -/
  | pathFree (p : Path)
  /-- RELEASED_READ_RETURN (R79): memory answers an unanswered request. -/
  | releasedReadReturn (n : Nat) (r : Response)
  /-- ANSWER_COMPLETE (R65) of a held entry. -/
  | answerComplete (ticket : Nat)
  /-- MEMORY_PORT_GRANT (R146). -/
  | memoryPortGrant
  /-- MEMORY_ANSWER (R148): memory answers an unanswered request. -/
  | memoryAnswer (n : Nat) (r : Response)
  /-- READ_TO_CLEAR (R164): memory answers an unanswered request. -/
  | readToClear (n : Nat) (r : Response)
  /-- STATUS_POSTING (R162). -/
  | statusPosting
  /-- REF_PULSE (R110). -/
  | refPulse
  /-- PULSE_TIMEOUT (R115). -/
  | pulseTimeout
  /-- ECHO_STROBE (R123): the path of the strobe and the value of its ECHO_TAG lines. -/
  | echoStrobe (p : Path) (tag : Tag)
  /-- UNKNOWN_ACTION_CODE (R154): the whole 8-byte ACTION word. -/
  | unknownActionCode (word : BitVec 64)
  deriving DecidableEq, Repr

end Sys2Proof
end

