-- ==== Sys2Proof/Decode.lean ====
section
/-! DEFINITION. The decoder of the rows to which spec/opcode_table.json gives bits. It gives bits to no row: its
rows carry no "fixed" bits and no "fields", so no word spells a command. (The layouts of the command
words SELECT, DATA and ACTION, Table 10-9, are read where the Command Decoder takes them: Machine/Operands.) -/
namespace Sys2Proof

/-- The command that a word spells by the table's bits: none, for every word (the table gives no row bits). -/
def decodeTableWord (_nbits _w : Nat) : Option Instr := none

end Sys2Proof
end

