-- ==== Sys2Proof/Config.lean ====
section
/-! DEFINITION. What the manual leaves open and the part nevertheless produces: FREE VALUES, constants with no
body, of which Lean can compute nothing and prove nothing. Each is applied to a plain counter of State
(`State.freeIndex`) or to the place it concerns. -/
namespace Sys2Proof

/-- Whether path A's arbiter takes its grants before path B's, where both can grant in one event: R100 lets
them be taken in either order. FREE VALUE (notes/assumptions/6.md). -/
opaque Config.grantAFirst : Nat → Bool

/-- The code and the operand that the command echo record shows after an ACTION word covered only in part:
R156 states its result alone. FREE VALUE (notes/assumptions/7.md). -/
opaque Config.partialActionByte : Nat → BitVec 8

/-- The content of a segment record that no ARM has initialised, by record number (R45: no initialised
content). FREE VALUES (notes/assumptions/8.md). -/
opaque Config.uninitSeq : Nat → BitVec 32

/-- As `Config.uninitSeq`: the bytes field. -/
opaque Config.uninitBytes : Nat → Nat

/-- As `Config.uninitSeq`: the write sum. -/
opaque Config.uninitWriteSum : Nat → BitVec 32

/-- As `Config.uninitSeq`: the ready time. -/
opaque Config.uninitReady : Nat → Option Nat

/-- As `Config.uninitSeq`: whether a path is in the released set. -/
opaque Config.uninitReleased : Nat → Path → Bool

end Sys2Proof
end

