-- ==== Sys2Proof/Machine/State.lean ====
section
/-! DEFINITION. The state of the block, as plain data: every register, table, queue, buffer, counter, mode and
output the manual gives the part, block by block (Table 0-1), and the queue of the commands that wait.
Reset values are those of the sections that own each piece of state. -/
namespace Sys2Proof.Machine

open Sys2Proof

/-! ### Pairs, one value for each network path -/

/-- One value for path A and one for path B. -/
structure PathPair (α : Type) where
  a : α
  b : α
  deriving DecidableEq, Repr, Inhabited

/-- The value of a path. -/
def PathPair.get {α : Type} (x : PathPair α) : Path → α
  | .A => x.a
  | .B => x.b

/-- The pair with one path's value replaced. -/
def PathPair.set {α : Type} (x : PathPair α) (p : Path) (v : α) : PathPair α :=
  match p with
  | .A => { x with a := v }
  | .B => { x with b := v }

/-- The pair with the same value for both paths. -/
def PathPair.both {α : Type} (v : α) : PathPair α := ⟨v, v⟩

/-! ### Stream contexts (Section 1) -/

/-- Table 1-2: the stream states. -/
inductive StreamState where
  | idle
  | aligning
  | armed
  | running
  | draining
  | halted
  deriving DecidableEq, Repr, Inhabited

/-- Field 9 of Table 1-1. -/
inductive Model where
  | even
  | active
  deriving DecidableEq, Repr, Inhabited

/-- Field 11 of Table 1-1. -/
inductive PathSet where
  | onlyA
  | onlyB
  | bothAB
  deriving DecidableEq, Repr, Inhabited

/-- Field 14 of Table 1-1. -/
inductive FillPolicy where
  | stale
  | pattern
  | error
  deriving DecidableEq, Repr, Inhabited

/-- Table 1-1: the 21 parameter fields of a stream, with their reset values. -/
structure Params where
  windowBase : Nat := 0
  lineStride : Nat := 64
  segStride : Nat := 64
  segLen : Nat := 1
  segsPerLine : Nat := 1
  activeLines : Nat := 1
  totalLines : Nat := 1
  num : Nat := 1
  den : Nat := 1
  model : Model := .even
  launchOffset : Nat := 0
  pathSet : PathSet := .onlyA
  skewB : Nat := 0
  /-- field 13, class: set for class 1, clear for class 0 -/
  classOne : Bool := false
  policy : FillPolicy := .stale
  fillWord : BitVec 32 := 0
  meterDepth : Nat := 4
  lateLimit : Nat := 1000000
  marginThreshold : Nat := 0
  marginHysteresis : Nat := 0
  armingLead : Nat := 1000000
  deriving DecidableEq, Repr, Inhabited

/-- The class L fields (fields 10 and 13 to 19 of Table 1-1). -/
structure LiveParams where
  launchOffset : Nat
  classOne : Bool
  policy : FillPolicy
  fillWord : BitVec 32
  meterDepth : Nat
  lateLimit : Nat
  marginThreshold : Nat
  marginHysteresis : Nat
  deriving DecidableEq, Repr, Inhabited

/-- R7: the pending-apply record; its frame is absent while it is marked for the first frame, f0. -/
structure PendingApply where
  live : LiveParams
  frame : Option Nat
  deriving DecidableEq, Repr, Inhabited

/-- R6: an entry of the offset schedule; its first frame is absent while f0 is not known. -/
structure OffsetEntry where
  firstFrame : Option Nat
  offset : Nat
  deriving DecidableEq, Repr, Inhabited

/-- R1: the first frame f0 and its start T_f0. -/
structure FirstFrame where
  frame : Nat
  start : Nat
  deriving DecidableEq, Repr, Inhabited

/-! ### The schedule (Section 2) -/

/-- R21: a frame record: the frame number f, its start T_f and its remainder frem. -/
structure FrameRec where
  frame : Nat
  start : Nat
  rem : Nat
  deriving DecidableEq, Repr, Inhabited

/-- R32: the next position of an assignment accumulator: its frame record, n, the spacing and the remainder
rem of R28. -/
structure NextPos where
  frame : FrameRec
  n : Nat
  spacing : Nat
  rem : Nat
  deriving DecidableEq, Repr, Inhabited

/-- R32, R39: the assignment accumulator of a stream-path (`next` absent while marked "first"), its drop mode
(the frame it is set for) and its head. -/
structure Accumulator where
  next : Option NextPos
  drop : Option Nat
  head : Nat
  deriving DecidableEq, Repr, Inhabited

/-- R93: a receiver meter: the level X in units of 1/D ns and the update time t0. -/
structure Meter where
  level : Nat
  updated : Nat
  deriving DecidableEq, Repr, Inhabited

/-! ### The margin monitor (Section 8) -/

/-- R129: the two trackers, which hold values together. -/
structure Trackers where
  fast : Nat
  slow : Nat
  deriving DecidableEq, Repr, Inhabited

/-- R129: a margin monitor; `trackers` absent is "no sample". -/
structure Margin where
  trackers : Option Trackers := none
  alarm : Bool := false
  deriving DecidableEq, Repr, Inhabited

/-! ### Launch error statistics (Section 7) -/

/-- R125, R126: a minimum and a maximum launch error; absent is "no sample". -/
structure ErrRange where
  min : Option Int := none
  max : Option Int := none
  deriving DecidableEq, Repr, Inhabited

/-- R139: window bounds: the first byte address and the length in bytes. -/
structure Window where
  base : Nat
  len : Nat
  deriving DecidableEq, Repr, Inhabited

/-- All the state the blocks hold for one stream. -/
structure Stream where
  /-- R9 -/
  state : StreamState := .idle
  /-- R2: the staged record -/
  staged : Params := {}
  /-- R5: the active copy -/
  active : Params := {}
  /-- R6: the offset schedule -/
  offsets : List OffsetEntry := [⟨none, 0⟩]
  /-- R7 -/
  pendingApply : Option PendingApply := none
  /-- R4: the ring depth R as fixed by the last ARM -/
  ring : Nat := 0
  /-- R1: t_arm -/
  tArm : Nat := 0
  /-- R1: f0 and T_f0 -/
  first : Option FirstFrame := none
  /-- R1: f_stop -/
  fStop : Option Nat := none
  /-- R21: the current frame record -/
  clockNow : Option FrameRec := none
  /-- R21: the next frame record -/
  clockNext : Option FrameRec := none
  /-- R32 -/
  acc : PathPair (Option Accumulator) := ⟨none, none⟩
  /-- R40 -/
  qHead : Option Nat := none
  /-- R71: the consecutive-mismatch counts -/
  mismatches : PathPair Nat := ⟨0, 0⟩
  /-- R93 -/
  meters : PathPair (Option Meter) := ⟨none, none⟩
  /-- R129 -/
  margin : Margin := {}
  /-- R126 -/
  echoStats : PathPair ErrRange := ⟨{}, {}⟩
  /-- R139 -/
  window : Option Window := none
  /-- R158: E_s, in the bit positions of Table 10-5 -/
  events : BitVec 16 := 0
  /-- R153: M_s -/
  mask : BitVec 16 := 0
  /-- R159: the twelve counters, in the order of Table 10-5 -/
  counters : Vector Nat 12 := Vector.replicate 12 0
  deriving DecidableEq, Repr, Inhabited

/-! ### The segment table (Section 3) -/

/-- Table 3-2: a segment record. The fill state is derived from `bytes` (R50). -/
structure SegRecord where
  seq : BitVec 32
  bytes : Nat
  writeSum : BitVec 32
  readyTime : Option Nat
  released : PathPair Bool
  deriving DecidableEq, Repr, Inhabited

/-! ### The held-read table (Section 4) -/

/-- Table 4-2: the phases of an entry. -/
inductive Phase where
  | unassigned
  | waiting
  | eligible
  | forwarded
  deriving DecidableEq, Repr, Inhabited

/-- Table 4-1: the outcomes of a grant. -/
inductive ReadOutcome where
  | normal
  | underrunStale
  | underrunPattern
  | underrunError
  deriving DecidableEq, Repr, Inhabited

/-- Table 4-1: what an entry is given at assignment: its position (f, n), its line (the Schedule Unit's count,
R41; q is it modulo 2^32) and segment k, its launch and release times, and whether the sequence check
found a match. -/
structure Assigned where
  frame : Nat
  n : Nat
  line : Nat
  seg : Nat
  launch : Nat
  release : Nat
  matched : Bool
  deriving DecidableEq, Repr, Inhabited

/-- How far an entry's answer has come (R67, R79): not decided, awaited from memory, or being returned on the
send port. -/
inductive HeldAnswer where
  | undecided
  | awaited
  | returning (r : Response)
  deriving DecidableEq, Repr, Inhabited

/-- Table 4-1, with the permit time and deferred mark the Path Arbiter keeps for an entry (R95, R96). The
ticket numbers the entries in arrival order (the model's own name for an entry). -/
structure HeldRead where
  ticket : Nat
  stream : StreamId
  path : Path
  tag : Tag
  addr : Addr
  len : Nat
  readSlot : Nat
  readSeg : Nat
  assigned : Option Assigned
  phase : Phase
  outcome : Option ReadOutcome
  snapshot : Option (BitVec 32)
  pastRun : Bool
  permit : Option Nat
  deferred : Bool
  answer : HeldAnswer
  deriving DecidableEq, Repr, Inhabited

/-- The Release Gate: the held-read table in arrival order (R65), whether a stall episode is in progress
(R68), and the next ticket. -/
structure Gate where
  held : List HeldRead := []
  stalled : Bool := false
  nextTicket : Nat := 0
  deriving DecidableEq, Repr, Inhabited

/-! ### Paths (Sections 5 and 7) -/

/-- Table 7-2: an echo entry. -/
structure EchoEntry where
  tag : Tag
  stream : StreamId
  launch : Nat
  pastRun : Bool
  deriving DecidableEq, Repr, Inhabited

/-- What the Path Arbiter and the Echo Unit hold for one path. -/
structure PathState where
  /-- Table 5-1 -/
  enable : Bool := false
  /-- Table 5-1, in ps -/
  byteTime : Nat := 80
  /-- Table 5-1 -/
  overhead : Nat := 0
  /-- R91 -/
  busyUntil : Nat := 0
  /-- R102: the last winner of class 0 -/
  lastWinner0 : StreamId := 23
  /-- R102: the last winner of class 1 -/
  lastWinner1 : StreamId := 23
  /-- R118: lead mode, set for AUTO -/
  leadAuto : Bool := false
  /-- R118: the lead value -/
  lead : Nat := 0
  /-- R120, oldest first -/
  echoQueue : List EchoEntry := []
  /-- R125 -/
  lastError : Option Int := none
  /-- R125 -/
  errRange : ErrRange := {}
  deriving DecidableEq, Repr, Inhabited

/-! ### Time base and reference lock (Section 6) -/

/-- R105: the time base: its whole part in ns and its fraction in units of 10^-9 ns; `osc` counts the
nanoseconds of oscillator time since the release of the reset line (the model's own). -/
structure TimeBase where
  now : Nat := 0
  frac : Nat := 0
  osc : Nat := 0
  deriving DecidableEq, Repr, Inhabited

/-- Table 6-1: the reference record. -/
structure RefRecord where
  enable : Bool := false
  interval : Nat := 1000000000
  lockWindow : Nat := 1000
  unlockWindow : Nat := 10000
  stepThreshold : Nat := 1000000
  nextPulse : Nat := 0
  deriving DecidableEq, Repr, Inhabited

/-- Table 6-2: the lock states. -/
inductive LockState where
  | free
  | acquiring
  | locked
  | holdover
  deriving DecidableEq, Repr, Inhabited

/-- R108, R109: what the Reference Lock holds. -/
structure RefLock where
  epoch : Option Nat := none
  lastIndex : Option Int := none
  state : LockState := .free
  trim : Int := 0
  rate : Int := 0
  good : Nat := 0
  lastError : Int := 0
  deadline : Option Nat := none
  deriving DecidableEq, Repr, Inhabited

/-! ### The command decoder (Section 10) -/

/-- Table 10-2: the kind and index of a selection. -/
inductive SelTarget where
  | none
  | stream (i : StreamId)
  | carve
  | tag (t : Tag)
  | path (p : Path)
  | reference
  | masks
  deriving DecidableEq, Repr, Inhabited

/-- R150: the selection: kind and index, and the next field. -/
structure Selection where
  target : SelTarget := .none
  next : Nat := 0
  deriving DecidableEq, Repr, Inhabited

/-- Table 10-4: the result codes. -/
inductive ResultCode where
  | done
  | state
  | period
  | lines
  | stride
  | ring
  | gap
  | window
  | path
  | format
  | index
  | busy
  | order
  | noSelection
  deriving DecidableEq, Repr, Inhabited

/-- R156: the command echo record, less the selection, which it shows as the decoder holds it. -/
structure CommandEcho where
  count : BitVec 32 := 0
  selectResult : ResultCode := .done
  dataKind : Nat := 0
  dataIndex : Nat := 0
  dataField : Nat := 0
  dataResult : ResultCode := .done
  dataClamped : Bool := false
  dataValue : BitVec 64 := 0
  actionCode : BitVec 8 := 0
  actionOperand : BitVec 8 := 0
  actionResult : ResultCode := .done
  deriving DecidableEq, Repr, Inhabited

/-- R150: the Command Decoder. -/
structure Decoder where
  sel : Selection := {}
  echo : CommandEcho := {}
  deriving DecidableEq, Repr, Inhabited

/-! ### The access path (Section 9) -/

/-- R140: the class of a fill-port request. -/
inductive FillClass where
  | command
  | readToClear
  | accounted
  | pass
  deriving DecidableEq, Repr, Inhabited

/-- A request in the fill forwarder (R146). -/
structure FillItem where
  addr : Addr
  acc : Access
  cls : FillClass
  deriving DecidableEq, Repr, Inhabited

/-- A send-port pass request in the send forwarder (R146); strays are among them (R145). -/
structure SendPass where
  tag : Tag
  addr : Addr
  acc : Access
  deriving DecidableEq, Repr, Inhabited

/-- A released read in the send forwarder (R79, R146): its held entry, its request, its path and grant time. -/
structure Released where
  ticket : Nat
  tag : Tag
  addr : Addr
  len : Nat
  path : Path
  grantTime : Nat
  deriving DecidableEq, Repr, Inhabited

/-- What stands in the send forwarder. -/
inductive SendBody where
  | pass (r : SendPass)
  | released (r : Released)
  deriving DecidableEq, Repr, Inhabited

/-- A ready request of the send forwarder, with the instant at which it became ready (R146), counted in
oscillator time. -/
structure SendItem where
  readyAt : Nat
  body : SendBody
  deriving DecidableEq, Repr, Inhabited

/-- A released read that waits for fill writes accounted before its grant (R147): `wait` fill-port requests
of the fill forwarder, from its head on, are still to be granted. -/
structure Blocked where
  wait : Nat
  read : Released
  deriving DecidableEq, Repr, Inhabited

/-- R160: the 27 status records. -/
inductive RecordId where
  | summary
  | device
  | echo
  | stream (i : StreamId)
  deriving DecidableEq, Repr, Inhabited

/-- R162: a posting: one write of a whole record at the record's address. -/
structure Posting where
  record : RecordId
  addr : Nat
  bytes : List Byte
  deriving DecidableEq, Repr, Inhabited

/-- R146: the sources of the memory port. -/
inductive Source where
  | fill
  | send
  | status
  deriving DecidableEq, Repr, Inhabited

/-- A request that the memory port has passed to memory and memory has not answered. -/
inductive MemRequest where
  | fill (r : FillItem)
  | send (r : SendPass)
  | released (r : Released)
  | posting (p : Posting)
  deriving DecidableEq, Repr, Inhabited

/-- The answer last returned on the fill port: the request that made it and the response. -/
structure FillReply where
  request : FillItem
  response : Response
  deriving DecidableEq, Repr, Inhabited

/-- The answer last returned on the send port: the request that made it and the response. -/
structure SendReply where
  request : SendPass
  response : Response
  deriving DecidableEq, Repr, Inhabited

/-- The forwarders, the status source and the memory port (R146, R162), and the answers last returned on the
two upstream ports (the model's own record of what the ports put out). -/
structure Ports where
  fillForwarder : List FillItem := []
  sendReady : List SendItem := []
  sendBlocked : List Blocked := []
  statusSource : Option Posting := none
  lastGranted : Source := .status
  atMemory : List MemRequest := []
  fillOut : Option FillReply := none
  sendOut : Option SendReply := none
  deriving DecidableEq, Repr, Inhabited

/-! ### The status writer (Section 11) -/

/-- R163: the pending update set when the reset line is released. -/
def initialUpdates : List RecordId :=
  [.summary, .device, .echo] ++ (List.finRange 24).map RecordId.stream

/-- R158 to R165: what the Status Writer holds for the device, the pending update set, oldest first, and the
level of the ATTN output. -/
structure Status where
  /-- E_dev, in the bit positions of Table 10-6 -/
  events : BitVec 10 := 0
  /-- M_dev -/
  mask : BitVec 10 := 0
  /-- bits 0 to 23 the streams, bit 24 the device -/
  summaryMask : BitVec 25 := 0
  /-- the eight device counters, in the order of Table 10-6 -/
  counters : Vector Nat 8 := Vector.replicate 8 0
  updates : List RecordId := initialUpdates
  attn : Bool := false
  deriving DecidableEq, Repr, Inhabited

/-- A tag table entry (R143): unmapped, or a stream and a path. -/
abbrev TagEntry := Option (StreamId × Path)

/-- R46: the reset carve, base[s] = 512 × s. -/
def resetCarve : Vector Nat 24 := Vector.ofFn fun i => 512 * i.val

/-! ### The state -/

/-- The state of the block. -/
structure State where
  /-- the commands that wait, first in, first out -/
  pending : List Instr
  /-- whether the reset line is asserted (Table 0-2, R149) -/
  inReset : Bool
  /-- R138: STRAP[23:0] as sampled, bits 39 to 16 of the control region base -/
  straps : BitVec 24
  /-- R105 -/
  time : TimeBase
  /-- R107 -/
  refRec : RefRecord
  /-- R108, R109 -/
  lock : RefLock
  /-- R150 -/
  decoder : Decoder
  /-- R1 and the per-stream state of the other blocks -/
  streams : Vector Stream 24
  /-- R46 -/
  carve : Vector Nat 24
  /-- R45: the initialised segment records by record number, numbers strictly rising -/
  segs : List (Nat × SegRecord)
  /-- R65 -/
  gate : Gate
  /-- R89, R118, R120 -/
  paths : PathPair PathState
  /-- R143 -/
  tags : Vector TagEntry 64
  /-- R146 -/
  ports : Ports
  /-- R158 to R165 -/
  status : Status
  /-- how many free values have been drawn (the model's own) -/
  freeIndex : Nat
  deriving DecidableEq, Repr

/-- The machine right after the release of the reset line: every block in its reset state, with all 27
records pending (R149, R163), nothing waiting in the command queue, and the straps taken as 0. -/
def State.reset : State where
  pending := []
  inReset := false
  straps := 0
  time := {}
  refRec := {}
  lock := {}
  decoder := {}
  streams := Vector.replicate 24 {}
  carve := resetCarve
  segs := []
  gate := {}
  paths := ⟨{}, {}⟩
  tags := Vector.replicate 64 none
  ports := {}
  status := {}
  freeIndex := 0

/-! ### What can stop a step -/

/-- The faults: none. No rule of the manual stops the part, and every command has an effect (R148: no error
response stops a port or the part), so no meaning raises a fault. -/
inductive Fault where
  deriving DecidableEq, Repr

/-- The refusals. -/
inductive Refusal where
  /-- Raised by `exec` alone, for a command that has no meaning in the model yet (safe: the model stops where
  the part goes on). No arm of this model raises it. -/
  | notModelled (mnemonic : String)
  deriving DecidableEq, Repr

/-! ### Access -/

/-- The state of a stream. -/
def State.stream (s : State) (i : StreamId) : Stream := s.streams[i.val]

/-- The state with one stream's part changed. -/
def State.updStream (s : State) (i : StreamId) (f : Stream → Stream) : State :=
  { s with streams := s.streams.set i.val (f (s.stream i)) }

/-- The state with one path's part changed. -/
def State.updPath (s : State) (p : Path) (f : PathState → PathState) : State :=
  { s with paths := s.paths.set p (f (s.paths.get p)) }

/-- The state with another time base. -/
def State.withTime (s : State) (x : TimeBase) : State := { s with time := x }

/-- The state with another reference record. -/
def State.withRefRec (s : State) (x : RefRecord) : State := { s with refRec := x }

/-- The state with another reference lock. -/
def State.withLock (s : State) (x : RefLock) : State := { s with lock := x }

/-- The state with another command decoder. -/
def State.withDecoder (s : State) (x : Decoder) : State := { s with decoder := x }

/-- The state with another carve table. -/
def State.withCarve (s : State) (x : Vector Nat 24) : State := { s with carve := x }

/-- The state with another segment table. -/
def State.withSegs (s : State) (x : List (Nat × SegRecord)) : State := { s with segs := x }

/-- The state with another Release Gate. -/
def State.withGate (s : State) (x : Gate) : State := { s with gate := x }

/-- The state with another tag table. -/
def State.withTags (s : State) (x : Vector TagEntry 64) : State := { s with tags := x }

/-- The state with other forwarders and ports. -/
def State.withPorts (s : State) (x : Ports) : State := { s with ports := x }

/-- The state with another Status Writer. -/
def State.withStatus (s : State) (x : Status) : State := { s with status := x }

/-- The state with one more free value drawn. -/
def State.drawFree (s : State) : State := { s with freeIndex := s.freeIndex + 1 }

/-- The state with another command queue. -/
def State.withPending (s : State) (x : List Instr) : State := { s with pending := x }

end Sys2Proof.Machine
end

