-- ==== Sys2Proof/Machine/Flags.lean ====
section
/-! DEFINITION. Event flags, counters, the pending update set and the attention line (Section 11): every latching,
counting and queueing of the other files is one of the operations here, and `settle` closes an event. -/
namespace Sys2Proof.Machine

open Sys2Proof

/-! ### Flags and counters by name -/

/-- The 16 stream event flags, in the bit order of Table 10-5. -/
inductive StreamEvent where
  | started | idled | halted | underrun | late | drop | slip | torn | check | sequence | deferred
  | marginLow | marginOk | stray | applied | drainTimeout
  deriving DecidableEq, Repr

/-- The bit of a stream event flag (Table 10-5). -/
def streamEventBit : StreamEvent → Nat
  | .started => 0
  | .idled => 1
  | .halted => 2
  | .underrun => 3
  | .late => 4
  | .drop => 5
  | .slip => 6
  | .torn => 7
  | .check => 8
  | .sequence => 9
  | .deferred => 10
  | .marginLow => 11
  | .marginOk => 12
  | .stray => 13
  | .applied => 14
  | .drainTimeout => 15

/-- The set that holds one stream event flag. -/
def streamEventSet (e : StreamEvent) : BitVec 16 := 1#16 <<< streamEventBit e

/-- The 10 device event flags, in the bit order of Table 10-6. -/
inductive DeviceEvent where
  | locked | unlocked | holdover | stepped | pulseDup | stall | echoLost | echoStray | cmdRefused
  | fieldClamped
  deriving DecidableEq, Repr

/-- The bit of a device event flag (Table 10-6). -/
def deviceEventBit : DeviceEvent → Nat
  | .locked => 0
  | .unlocked => 1
  | .holdover => 2
  | .stepped => 3
  | .pulseDup => 4
  | .stall => 5
  | .echoLost => 6
  | .echoStray => 7
  | .cmdRefused => 8
  | .fieldClamped => 9

/-- The set that holds one device event flag. -/
def deviceEventSet (e : DeviceEvent) : BitVec 10 := 1#10 <<< deviceEventBit e

/-- The twelve stream counters, in the order of Table 10-5. -/
inductive StreamCounter where
  | framesStarted | releasedA | releasedB | underruns | late | dropped | surplus | torn | check
  | deferred | sequence | stray
  deriving DecidableEq, Repr

/-- The place of a stream counter (Table 10-5). -/
def streamCounterIndex : StreamCounter → Fin 12
  | .framesStarted => 0
  | .releasedA => 1
  | .releasedB => 2
  | .underruns => 3
  | .late => 4
  | .dropped => 5
  | .surplus => 6
  | .torn => 7
  | .check => 8
  | .deferred => 9
  | .sequence => 10
  | .stray => 11

/-- The eight device counters, in the order of Table 10-6. -/
inductive DeviceCounter where
  | stallEpisodes | echoLostA | echoLostB | echoStrayA | echoStrayB | pulsesTaken | duplicatePulses
  | commandRefusals
  deriving DecidableEq, Repr

/-- The place of a device counter (Table 10-6). -/
def deviceCounterIndex : DeviceCounter → Fin 8
  | .stallEpisodes => 0
  | .echoLostA => 1
  | .echoLostB => 2
  | .echoStrayA => 3
  | .echoStrayB => 4
  | .pulsesTaken => 5
  | .duplicatePulses => 6
  | .commandRefusals => 7

/-- A counter's increment saturates (0.6 Counters, R159). -/
def countUp (v : Nat) : Nat := min counterTop (v + 1)

/-- The value of a stream's counter. -/
def Stream.counter (st : Stream) (c : StreamCounter) : Nat := st.counters[(streamCounterIndex c).val]

/-- The stream with one counter incremented. -/
def Stream.count (st : Stream) (c : StreamCounter) : Stream :=
  { st with
    counters := st.counters.set (streamCounterIndex c).val (countUp (st.counter c)) }

/-- The value of a device counter. -/
def Status.counter (x : Status) (c : DeviceCounter) : Nat := x.counters[(deviceCounterIndex c).val]

/-! ### Queueing, latching and counting -/

/-- R160: a record joins the pending update set once, as the youngest entry. -/
def enqueueRecord (r : RecordId) (l : List RecordId) : List RecordId := if r ∈ l then l else l ++ [r]

/-- R160, R161: a record is queued for posting. -/
def State.queueRecord (s : State) (r : RecordId) : State :=
  s.withStatus { s.status with updates := enqueueRecord r s.status.updates }

/-- R158: a flag is latched in a stream's event set, which queues the stream's record. -/
def State.latch (s : State) (i : StreamId) (e : StreamEvent) : State :=
  (s.updStream i fun st => { st with events := st.events ||| streamEventSet e }).queueRecord (.stream i)

/-- R158: a flag is latched in the device event set, which queues the device record. -/
def State.latchDevice (s : State) (e : DeviceEvent) : State :=
  (s.withStatus { s.status with events := s.status.events ||| deviceEventSet e }).queueRecord .device

/-- R159: a stream counter is incremented; this queues nothing of itself. -/
def State.count (s : State) (i : StreamId) (c : StreamCounter) : State := s.updStream i (·.count c)

/-- R159: a device counter is incremented; this queues nothing of itself. -/
def State.countDevice (s : State) (c : DeviceCounter) : State :=
  s.withStatus
    { s.status with
      counters := s.status.counters.set (deviceCounterIndex c).val (countUp (s.status.counter c)) }

/-- R155, R159: a stream's twelve counters are cleared and its record is queued. -/
def State.clearStreamCounters (s : State) (i : StreamId) : State :=
  (s.updStream i fun st => { st with counters := Vector.replicate 12 0 }).queueRecord (.stream i)

/-- R155, R159: the eight device counters are cleared and the device record is queued. -/
def State.clearDeviceCounters (s : State) : State :=
  (s.withStatus { s.status with counters := Vector.replicate 8 0 }).queueRecord .device

/-- R9: a stream's state is set; every change of it queues the stream's record. -/
def State.setStreamState (s : State) (i : StreamId) (x : StreamState) : State :=
  (s.updStream i fun st => { st with state := x }).queueRecord (.stream i)

/-! ### The summary and the attention line -/

/-- R165: a stream's summary bit. -/
def Stream.summaryBit (st : Stream) : Bool := st.events &&& st.mask != 0

/-- R165: the device bit. -/
def Status.summaryBit (x : Status) : Bool := x.events &&& x.mask != 0

/-- R165: the level of the attention line that the latched sets, the masks and the summary mask call for. -/
def State.attentionLevel (s : State) : Bool :=
  ((List.finRange 24).any fun i => (s.stream i).summaryBit && s.status.summaryMask.getLsbD i.val) ||
    (s.status.summaryBit && s.status.summaryMask.getLsbD 24)

/-- R165, Table 10-7: the 25 summary bits, stream bits first. -/
def State.summaryBits (s : State) : List Bool :=
  ((List.finRange 24).map fun i => (s.stream i).summaryBit) ++ [s.status.summaryBit]

/-- R160: the order in which records queued by one event join the pending update set. -/
def joinOrder : List RecordId := [.device, .echo] ++ (List.finRange 24).map RecordId.stream ++ [.summary]

/-- The end of one event: `before` is the state the event found, `s` the state its blocks made. The attention
line takes its new level, the summary record is queued where a summary bit or the line has changed (R165),
and the records the event queued join the pending update set in the order of R160, behind those that were
in it. -/
def settle (before s : State) : State :=
  let level := s.attentionLevel
  let changed := before.summaryBits != s.summaryBits || before.status.attn != level
  let queued := if changed then enqueueRecord .summary s.status.updates else s.status.updates
  s.withStatus
    { s.status with
      attn := level
      updates := before.status.updates ++
        joinOrder.filter fun r => decide (r ∈ queued) && decide (r ∉ before.status.updates) }

/-- One event of the part: nothing happens while the reset line is asserted (R149, notes/assumptions/3.md);
otherwise the blocks act and the event is closed. -/
def event (f : State → State) (s : State) : State := if s.inReset then s else settle s (f s)

end Sys2Proof.Machine
end

