-- ==== Sys2Proof/Machine/Operands.lean ====
section
/-! DEFINITION. The operands of the commands: the fields of the command words (Table 10-9), the clamping of a DATA
value into the range of the field it is directed to (Tables 1-1, 5-1, 6-1, 7-1, R47, R143, R153), and the
bytes of requests, answers and records. -/
namespace Sys2Proof.Machine

open Sys2Proof

/-! ### Command words (Table 10-9) -/

/-- Bits 7:0: the kind code of a SELECT word, the action code of an ACTION word. -/
def wordCode (w : BitVec 64) : Nat := (w.extractLsb' 0 8).toNat

/-- Bits 15:8: the index of a SELECT word, the operand of an ACTION word. -/
def wordOperand (w : BitVec 64) : Nat := (w.extractLsb' 8 8).toNat

/-- Bits 23:16: the start field of a SELECT word. -/
def wordStart (w : BitVec 64) : Nat := (w.extractLsb' 16 8).toNat

/-- Whether the reserved bits 63:24 of a SELECT word are zero. -/
def selectReservedZero (w : BitVec 64) : Bool := w >>> 24 == 0

/-- Whether the reserved bits 63:16 of an ACTION word are zero. -/
def actionReservedZero (w : BitVec 64) : Bool := w >>> 16 == 0

/-- The ACTION word of a code and an operand, its reserved field zero. -/
def actionWord (code : Nat) (operand : BitVec 8) : BitVec 64 :=
  BitVec.ofNat 64 (code + 256 * operand.toNat)

/-- Table 10-2: the kind code of a selection. -/
def kindCode : SelTarget → Nat
  | .none => 0
  | .stream _ => 1
  | .carve => 2
  | .tag _ => 3
  | .path _ => 4
  | .reference => 5
  | .masks => 6

/-- The number of a path (0.6, Table 10-2). -/
def pathNumber : Path → Nat
  | .A => 0
  | .B => 1

/-- The index of a selection. -/
def indexCode : SelTarget → Nat
  | .stream i => i.val
  | .tag t => t.val
  | .path p => pathNumber p
  | .none | .carve | .reference | .masks => 0

/-- Table 10-2: the last field of a kind. -/
def lastField : SelTarget → Nat
  | .none => 0
  | .stream _ => 20
  | .carve => 23
  | .tag _ => 0
  | .path _ => 4
  | .reference => 5
  | .masks => 25

/-- Table 10-2: the selection of a kind code and an index; none where the index lies outside the kind's range. -/
def selectTarget (kind index : Nat) : Option SelTarget :=
  match kind with
  | 0 => if index = 0 then some .none else none
  | 1 => if h : index < 24 then some (.stream ⟨index, h⟩) else none
  | 2 => if index = 0 then some .carve else none
  | 3 => if h : index < 64 then some (.tag ⟨index, h⟩) else none
  | 4 => if index = 0 then some (.path .A) else if index = 1 then some (.path .B) else none
  | 5 => if index = 0 then some .reference else none
  | 6 => if index = 0 then some .masks else none
  | _ => none

/-- Table 10-4: the numbers of the result codes. -/
def resultNumber : ResultCode → Nat
  | .done => 0
  | .state => 1
  | .period => 2
  | .lines => 3
  | .stride => 4
  | .ring => 5
  | .gap => 6
  | .window => 7
  | .path => 8
  | .format => 9
  | .index => 10
  | .busy => 11
  | .order => 12
  | .noSelection => 13

/-! ### Stream parameter fields (Table 1-1) -/

/-- 0.6 Clamping: a value rounded down to a multiple of 64 and then clamped. -/
def clamp64 (lo hi v : Nat) : Nat := clamp lo hi (v / 64 * 64)

/-- R2: the value a staged field stores for a value written. -/
def clampParam (field v : Nat) : Nat :=
  match field with
  | 0 => clamp64 0 0xFFFFFFFFC0 v
  | 1 => clamp64 64 1048576 v
  | 2 => clamp64 64 4096 v
  | 3 => clamp 1 4096 v
  | 4 => clamp 1 64 v
  | 5 => clamp 1 8192 v
  | 6 => clamp 1 8192 v
  | 7 => clamp 1 4294967295 v
  | 8 => clamp 1 1024 v
  | 9 => clamp 0 1 v
  | 10 => clamp 0 2147483647 v
  | 11 => clamp 1 3 v
  | 12 => clamp 0 1000000 v
  | 13 => clamp 0 1 v
  | 14 => clamp 0 2 v
  | 15 => clamp 0 0xFFFFFFFF v
  | 16 => clamp 2 32 v
  | 17 => clamp 1000 100000000 v
  | 18 => clamp 0 2147483647 v
  | 19 => clamp 0 2147483647 v
  | 20 => clamp 100000 1000000000 v
  | _ => v

/-- Field 9: the model a stored number stands for. -/
def modelOf (v : Nat) : Model := if v = 0 then .even else .active

/-- Field 11: the path set a stored number stands for. -/
def pathSetOf (v : Nat) : PathSet := if v ≤ 1 then .onlyA else if v = 2 then .onlyB else .bothAB

/-- Field 14: the fill policy a stored number stands for. -/
def policyOf (v : Nat) : FillPolicy := if v = 0 then .stale else if v = 1 then .pattern else .error

/-- R2: the record with one field holding a stored (clamped) value. -/
def Params.setField (p : Params) (field v : Nat) : Params :=
  match field with
  | 0 => { p with windowBase := v }
  | 1 => { p with lineStride := v }
  | 2 => { p with segStride := v }
  | 3 => { p with segLen := v }
  | 4 => { p with segsPerLine := v }
  | 5 => { p with activeLines := v }
  | 6 => { p with totalLines := v }
  | 7 => { p with num := v }
  | 8 => { p with den := v }
  | 9 => { p with model := modelOf v }
  | 10 => { p with launchOffset := v }
  | 11 => { p with pathSet := pathSetOf v }
  | 12 => { p with skewB := v }
  | 13 => { p with classOne := v != 0 }
  | 14 => { p with policy := policyOf v }
  | 15 => { p with fillWord := BitVec.ofNat 32 v }
  | 16 => { p with meterDepth := v }
  | 17 => { p with lateLimit := v }
  | 18 => { p with marginThreshold := v }
  | 19 => { p with marginHysteresis := v }
  | 20 => { p with armingLead := v }
  | _ => p

/-- R3, R7: the class L fields of a record. -/
def Params.live (p : Params) : LiveParams :=
  { launchOffset := p.launchOffset, classOne := p.classOne, policy := p.policy, fillWord := p.fillWord
    meterDepth := p.meterDepth, lateLimit := p.lateLimit, marginThreshold := p.marginThreshold
    marginHysteresis := p.marginHysteresis }

/-- R5, R8: the record with its class L fields replaced. -/
def Params.withLive (p : Params) (l : LiveParams) : Params :=
  { p with
    launchOffset := l.launchOffset, classOne := l.classOne, policy := l.policy, fillWord := l.fillWord
    meterDepth := l.meterDepth, lateLimit := l.lateLimit, marginThreshold := l.marginThreshold
    marginHysteresis := l.marginHysteresis }

/-! ### The other fields a DATA word can be directed to -/

/-- Tables 5-1 and 7-1: the value a path field stores for a value written. -/
def clampPathField (field v : Nat) : Nat :=
  match field with
  | 0 => clamp 0 1 v
  | 1 => clamp 20 10000 v
  | 2 => clamp 0 255 v
  | 3 => clamp 0 1 v
  | 4 => clamp 0 50000 v
  | _ => v

/-- Table 6-1, R107: the value a reference field stores; the unlock window's lowest value is the lock window
as it stands. -/
def clampRefField (r : RefRecord) (field v : Nat) : Nat :=
  match field with
  | 0 => clamp 0 1 v
  | 1 => clamp 1000000 1000000000 v
  | 2 => clamp 1 1000000 v
  | 3 => clamp r.lockWindow 10000000 v
  | 4 => clamp 1000 1000000000 v
  | 5 => clamp 0 top64 v
  | _ => v

/-- R153: the width of a mask. -/
def maskWidth (field : Nat) : Nat := if field < 24 then 16 else if field = 24 then 10 else 25

/-- R152: the value clamped into the range of the field the selection names. -/
def clampData (r : RefRecord) (sel : Selection) (v : Nat) : Nat :=
  match sel.target with
  | .none => 0
  | .stream _ => clampParam sel.next v
  | .carve => clamp 0 12288 v
  | .tag _ => clamp 0 48 v
  | .path _ => clampPathField sel.next v
  | .reference => clampRefField r sel.next v
  | .masks => v % 2 ^ maskWidth sel.next

/-- R143: the tag table entry a mapping value stands for. -/
def tagEntryOf (v : Nat) : TagEntry :=
  if v = 0 then none
  else if h : (v - 1) / 2 < 24 then some (⟨(v - 1) / 2, h⟩, if (v - 1) % 2 = 0 then .A else .B)
  else none

/-! ### Bytes -/

/-- A value written least significant byte first in `n` bytes (R157). -/
def leBytes : Nat → Nat → List Byte
  | 0, _ => []
  | n + 1, v => BitVec.ofNat 8 v :: leBytes n (v / 256)

/-- The value of bytes read least significant first. -/
def leValue : List Byte → Nat
  | [] => 0
  | b :: bs => b.toNat + 256 * leValue bs

/-- The sum of data bytes modulo 2^32 (R56, R80). -/
def byteSum : List Byte → BitVec 32
  | [] => 0
  | b :: bs => b.zeroExtend 32 + byteSum bs

/-- R77: the first `n` bytes, from byte `i` of the response on, of the fill word repeated. -/
def fillBytes (word : BitVec 32) : Nat → Nat → List Byte
  | _, 0 => []
  | i, n + 1 => word.extractLsb' (8 * (i % 4)) 8 :: fillBytes word (i + 1) n

/-- The data of a response from byte `off` on, `n` bytes of it. -/
def responseSlice (data : List Byte) (off n : Nat) : List Byte := (data.drop off).take n

/-! ### Addresses of the control region (R138, Table 10-1) -/

/-- R138: the control region base. -/
def State.controlBase (s : State) : Nat := s.straps.toNat * 2 ^ 16

/-- R138: the size of the control region. -/
def controlSize : Nat := 65536

/-- Table 10-1: the offset of a command word. -/
def commandOffset : CommandWord → Nat
  | .select => 0x0000
  | .data => 0x0008
  | .action => 0x0010

/-- Table 10-1: the offset of a status record. -/
def recordOffset : RecordId → Nat
  | .summary => 0x1000
  | .device => 0x1040
  | .echo => 0x10C0
  | .stream i => 0x1100 + 0x80 * i.val

/-- Whether two byte ranges share a byte. -/
def overlaps (base1 len1 base2 len2 : Nat) : Bool :=
  base1 < base2 + len2 && base2 < base1 + len1 && 0 < len1 && 0 < len2

/-- Whether the first byte range covers the whole of the second. -/
def covers (base1 len1 base2 len2 : Nat) : Bool := base1 ≤ base2 && base2 + len2 ≤ base1 + len1

end Sys2Proof.Machine
end

