-- ==== Sys2Proof/Machine/Ops.lean ====
section
/-! DEFINITION. The shared operations over the block's tables: quantities derived from the active copy and the
carve, the segment table, the held-read table, windows, and the heads that follow from the held reads. -/
namespace Sys2Proof.Machine

open Sys2Proof

/-! ### Path sets -/

/-- Whether a path is in a path set. -/
def PathSet.has : PathSet → Path → Bool
  | .onlyA, .A => true
  | .onlyA, .B => false
  | .onlyB, .A => false
  | .onlyB, .B => true
  | .bothAB, _ => true

/-- The paths of a path set, A first. -/
def PathSet.paths (x : PathSet) : List Path := [Path.A, Path.B].filter x.has

/-- R82: the first path: A when A is in the set, and B otherwise. -/
def PathSet.firstPath (x : PathSet) : Path := if x.has .A then .A else .B

/-! ### Derived quantities (R4, R27) -/

/-- R4: the number of packet positions per frame, N = A × S. -/
def Params.positions (p : Params) : Nat := p.activeLines * p.segsPerLine

/-- R27: G. -/
def Params.gapG (p : Params) : Nat :=
  match p.model with
  | .even => p.num
  | .active => p.num * p.activeLines

/-- R27: D. -/
def Params.gapD (p : Params) : Nat :=
  match p.model with
  | .even => p.den * p.positions
  | .active => p.den * p.totalLines * p.positions

/-- R46: base[k] for k from 0 to 24; base[24] holds 12,288. -/
def carveBase (carve : Vector Nat 24) (k : Nat) : Nat := if h : k < 24 then carve[k] else 12288

/-- R4, R48: the ring depth of a stream for S segments per line, from the carve. -/
def ringDepth (carve : Vector Nat 24) (i : StreamId) (segsPerLine : Nat) : Nat :=
  (carveBase carve (i.val + 1) - carveBase carve i.val) / segsPerLine

/-- R9: whether a stream in this state is active, its window an active window. -/
def StreamState.isActive : StreamState → Bool
  | .aligning | .armed | .running | .draining => true
  | .idle | .halted => false

/-- R113: whether every one of the 24 streams is IDLE. -/
def State.allIdle (s : State) : Bool := (List.finRange 24).all fun i => (s.stream i).state == .idle

/-- R41: a line count reduced modulo 2^32, as a segment record's seq and a position's q hold it. -/
def lineSeq (line : Nat) : BitVec 32 := BitVec.ofNat 32 line

/-- An operation on every stream in increasing stream number. -/
def State.eachStream (s : State) (f : StreamId → State → State) : State :=
  (List.finRange 24).foldl (fun s i => f i s) s

/-! ### The segment table (Section 3) -/

/-- R50: the fill states. -/
inductive FillState where
  | empty
  | filling
  | ready
  deriving DecidableEq, Repr

/-- R50: the fill state follows from the bytes field and the stream's L. -/
def fillState (segLen bytes : Nat) : FillState :=
  if bytes = segLen then .ready else if bytes = 0 then .empty else .filling

/-- R51, R55, R59: a record set to account a line afresh. -/
def freshRecord (seq : BitVec 32) (released : PathPair Bool) : SegRecord :=
  { seq := seq, bytes := 0, writeSum := 0, readyTime := none, released := released }

/-- The content of a record that no ARM has initialised: free values (R45, notes/assumptions/8.md). -/
def uninitRecord (idx : Nat) : SegRecord :=
  { seq := Config.uninitSeq idx, bytes := Config.uninitBytes idx
    writeSum := Config.uninitWriteSum idx, readyTime := Config.uninitReady idx
    released := ⟨Config.uninitReleased idx .A, Config.uninitReleased idx .B⟩ }

/-- The record of a number. -/
def lookupSeg : List (Nat × SegRecord) → Nat → SegRecord
  | [], idx => uninitRecord idx
  | (k, r) :: rest, idx => if k = idx then r else lookupSeg rest idx

/-- The table with one record written, its numbers kept strictly rising. -/
def storeSeg : List (Nat × SegRecord) → Nat → SegRecord → List (Nat × SegRecord)
  | [], idx, r => [(idx, r)]
  | (k, x) :: rest, idx, r =>
    if idx < k then (idx, r) :: (k, x) :: rest
    else if idx = k then (idx, r) :: rest
    else (k, x) :: storeSeg rest idx r

/-- R48: the number of the record of slot j and segment k of a stream. -/
def State.recordIndex (s : State) (i : StreamId) (slot seg : Nat) : Nat :=
  carveBase s.carve i.val + slot * (s.stream i).active.segsPerLine + seg

/-- The segment record of slot j and segment k of a stream. -/
def State.segRecord (s : State) (i : StreamId) (slot seg : Nat) : SegRecord :=
  lookupSeg s.segs (s.recordIndex i slot seg)

/-- The state with that record written. -/
def State.setSegRecord (s : State) (i : StreamId) (slot seg : Nat) (r : SegRecord) : State :=
  s.withSegs (storeSeg s.segs (s.recordIndex i slot seg) r)

/-- R51: the initialised records from `base` on: slot j = t / S of every t below `n`, occupied by line j. -/
def freshRecords (base segsPerLine n : Nat) : List (Nat × SegRecord) :=
  (List.range n).map fun t => (base + t, freshRecord (lineSeq (t / segsPerLine)) (.both false))

/-- R51: the used records of a stream initialised; every other record keeps its content. -/
def State.initRecords (s : State) (i : StreamId) : State :=
  let st := s.stream i
  let base := carveBase s.carve i.val
  let n := st.ring * st.active.segsPerLine
  s.withSegs
    (s.segs.filter (fun e => e.1 < base) ++ freshRecords base st.active.segsPerLine n ++
      s.segs.filter (fun e => base + n ≤ e.1))

/-! ### Windows (R53, R139) -/

/-- R139: whether an address lies inside a window. -/
def Window.has (w : Window) (x : Nat) : Bool := w.base ≤ x && x < w.base + w.len

/-- R53: the slot, the segment and the segment offset of an address of a window. -/
structure Spot where
  slot : Nat
  seg : Nat
  off : Nat
  deriving DecidableEq, Repr

/-- R53: the spot of an address: window offset, slot, line offset, segment, segment offset. -/
def spotOf (p : Params) (w : Window) (x : Nat) : Spot :=
  let o := x - w.base
  let j := o / p.lineStride
  let u := o - j * p.lineStride
  let k := u / p.segStride
  { slot := j, seg := k, off := u - k * p.segStride }

/-- R53: the slot and segment whose payload an address holds, if it is a payload byte of the stream's window. -/
def Stream.payloadSpot (st : Stream) (x : Nat) : Option (Nat × Nat) :=
  match st.window with
  | none => none
  | some w =>
    let sp := spotOf st.active w x
    if w.has x && decide (sp.seg < st.active.segsPerLine) && decide (sp.off < st.active.segLen) then
      some (sp.slot, sp.seg)
    else none

/-- R53, R139: the slot and segment that start at an address, if it is a segment start of the stream's window. -/
def Stream.segmentStart (st : Stream) (x : Nat) : Option (Nat × Nat) :=
  match st.window with
  | none => none
  | some w =>
    let sp := spotOf st.active w x
    if w.has x && decide (sp.seg < st.active.segsPerLine) && decide (sp.off = 0) then
      some (sp.slot, sp.seg)
    else none

/-- R144: whether a request touches the stream's window while it is active. -/
def Stream.touchesActive (st : Stream) (addr len : Nat) : Bool :=
  st.state.isActive &&
    match st.window with
    | none => false
    | some w => overlaps w.base w.len addr len

/-! ### The held-read table (Section 4) -/

/-- The entry of a ticket. -/
def State.entry (s : State) (t : Nat) : Option HeldRead := s.gate.held.find? fun e => e.ticket == t

/-- The state with the entry of a ticket changed. -/
def State.updEntry (s : State) (t : Nat) (f : HeldRead → HeldRead) : State :=
  s.withGate { s.gate with held := s.gate.held.map fun e => if e.ticket = t then f e else e }

/-- Whether an entry is unanswered (R67): in phase UNASSIGNED, WAITING or ELIGIBLE. -/
def HeldRead.unanswered (e : HeldRead) : Bool := e.phase != .forwarded

/-- Whether an entry holds a position not yet consumed (R39): in phase WAITING or ELIGIBLE. -/
def HeldRead.unconsumed (e : HeldRead) : Bool := e.phase == .waiting || e.phase == .eligible

/-- R70, R84: the entry answered with error: FORWARDED, its outcome absent, its permit time and deferred mark
discarded (R96). -/
def HeldRead.failed (e : HeldRead) : HeldRead :=
  { e with phase := .forwarded, outcome := none, permit := none, deferred := false
           answer := .returning .error }

/-- R70: one entry answered with error at arrival. -/
def State.answerError (s : State) (t : Nat) : State := s.updEntry t HeldRead.failed

/-- R84: every unanswered entry of a stream answered with error, on every path. -/
def State.failStream (s : State) (i : StreamId) : State :=
  s.withGate
    { s.gate with
      held := s.gate.held.map fun e => if e.stream = i && e.unanswered then e.failed else e }

/-- The unconsumed entries of a stream-path in arrival order. -/
def State.unconsumed (s : State) (i : StreamId) (p : Path) : List HeldRead :=
  s.gate.held.filter fun e => e.stream = i && e.path = p && e.unconsumed

/-! ### Heads and q_head (R39, R40) -/

/-- R35: the line of a position, counted from line 0 of the run. -/
def Stream.lineAt (st : Stream) (frame n : Nat) : Nat :=
  (frame - (st.first.map (·.frame)).getD 0) * st.active.activeLines + n / st.active.segsPerLine

/-- R39: the line of the next position of a stream-path; line 0 while it is marked "first". -/
def Stream.nextLine (st : Stream) (p : Path) : Nat :=
  match (st.acc.get p).bind (·.next) with
  | none => 0
  | some np => st.lineAt np.frame.frame np.n

/-- R39: the head of a stream-path. -/
def State.headLine (s : State) (i : StreamId) (p : Path) : Nat :=
  match s.unconsumed i p with
  | e :: _ => (e.assigned.map (·.line)).getD 0
  | [] => (s.stream i).nextLine p

/-- R40: q_head from the heads of a path set and the ring depth. -/
def qHeadOf (set : PathSet) (ring headA headB : Nat) : Nat :=
  match set with
  | .onlyA => headA
  | .onlyB => headB
  | .bothAB => max (min headA headB) (max headA headB - (ring - 1))

/-- A stream's accumulator with its head set. -/
def setHead (acc : PathPair (Option Accumulator)) (p : Path) (h : Nat) : PathPair (Option Accumulator) :=
  acc.set p ((acc.get p).map fun a => { a with head := h })

/-- R39, R40: the heads of a stream and its q_head formed anew. -/
def State.refreshHeads (s : State) (i : StreamId) : State :=
  let hA := s.headLine i .A
  let hB := s.headLine i .B
  s.updStream i fun st =>
    { st with
      acc := setHead (setHead st.acc .A hA) .B hB
      qHead := some (qHeadOf st.active.pathSet st.ring hA hB) }

/-! ### Entry into IDLE, entry into HALTED, drain completion (R16, R19, R20) -/

/-- R20, R23, R32, R93, R139: what a stream holds no more once it is IDLE. -/
def Stream.idled (st : Stream) : Stream :=
  { st with
    pendingApply := none, fStop := none, window := none, clockNow := none, clockNext := none
    acc := .both none, qHead := none, meters := .both none }

/-- R20: entry of a stream into IDLE. -/
def State.enterIdle (s : State) (i : StreamId) : State :=
  ((s.updStream i Stream.idled).setStreamState i .idle).latch i .idled

/-- R19: entry of a stream into HALTED: its unanswered reads are answered with error, HALTED is latched and
f_stop is discarded. -/
def State.enterHalted (s : State) (i : StreamId) : State :=
  (((s.failStream i).updStream i fun st => { st with fStop := none }).setStreamState i .halted).latch i
    .halted

/-- R16: whether every path of a draining stream has assigned position (f_stop, N − 1), its next position
standing in a later frame, and has no position left unconsumed. -/
def State.drainComplete (s : State) (i : StreamId) : Bool :=
  let st := s.stream i
  match st.fStop with
  | none => false
  | some fs =>
    st.active.pathSet.paths.all fun p =>
      (match (st.acc.get p).bind (·.next) with
        | none => false
        | some np => decide (fs < np.frame.frame)) && (s.unconsumed i p).isEmpty

/-- R16, R20: a draining stream whose drain is complete goes to IDLE. -/
def State.drainCheck (s : State) (i : StreamId) : State :=
  if (s.stream i).state = .draining && s.drainComplete i then s.enterIdle i else s

/-- R83: a consumption of a position is reported: the heads follow it, and in DRAINING it counts toward the
drain's completion. -/
def State.consume (s : State) (i : StreamId) : State := (s.refreshHeads i).drainCheck i

end Sys2Proof.Machine
end

