-- ==== Sys2Proof/Machine/Schedule.lean ====
section
/-! DEFINITION. The arithmetic of the Schedule Unit (Section 2): frame records, positions, spacing, launch and
release times, the offset schedule, the first frame and the frames that STOP and APPLY name. -/
namespace Sys2Proof.Machine

open Sys2Proof

/-- R21: the frame record of absolute frame f. -/
def frameAt (p : Params) (f : Nat) : FrameRec :=
  { frame := f, start := f * p.num / p.den, rem := f * p.num % p.den }

/-- R22: the step of a frame record to the next frame by the frame accumulator. -/
def frameStep (p : Params) (x : FrameRec) : FrameRec :=
  let r := x.rem + p.num % p.den
  if p.den ≤ r then { frame := x.frame + 1, start := x.start + p.num / p.den + 1, rem := r - p.den }
  else { frame := x.frame + 1, start := x.start + p.num / p.den, rem := r }

/-- R28, R32: the first position of a frame. -/
def firstPos (x : FrameRec) : NextPos := { frame := x, n := 0, spacing := 0, rem := 0 }

/-- R28, R32: the step of a next position by one, into the next frame past position N − 1. -/
def posStep (p : Params) (x : NextPos) : NextPos :=
  if x.n + 1 < p.positions then
    let r := x.rem + p.gapG % p.gapD
    if p.gapD ≤ r then
      { x with n := x.n + 1, spacing := x.spacing + p.gapG / p.gapD + 1, rem := r - p.gapD }
    else { x with n := x.n + 1, spacing := x.spacing + p.gapG / p.gapD, rem := r }
  else firstPos (frameStep p x.frame)

/-- R25: the first frame, the smallest f whose start is not before t_arm plus the arming lead. -/
def alignFrame (p : Params) (tArm : Nat) : FrameRec :=
  frameAt p (ceilDiv ((tArm + p.armingLead) * p.den) p.num)

/-- R6: whether an entry of the offset schedule is in force from a frame not later than `f`. -/
def OffsetEntry.reaches (e : OffsetEntry) (f : Nat) : Bool :=
  match e.firstFrame with
  | none => true
  | some g => g ≤ f

/-- R6: the offset in force for frame f: that of the last entry whose first frame is not later than f. -/
def offsetFor (l : List OffsetEntry) (f : Nat) : Nat :=
  l.foldl (fun v e => if e.reaches f then e.offset else v) 0

/-- R29: the skew of a path. -/
def Params.skew (p : Params) : Path → Nat
  | .A => 0
  | .B => p.skewB

/-- R29: the launch time of a position on a path. -/
def Stream.launchTime (st : Stream) (p : Path) (x : NextPos) : Nat :=
  x.frame.start + offsetFor st.offsets x.frame.frame + x.spacing + st.active.skew p

/-- R30: the release time: the launch time less the lead, 0 where the launch time is less than the lead. -/
def releaseTime (launch lead : Nat) : Nat := launch - lead

/-- The highest frame in which a stream-path has been assigned a position (R15, R42): the frame before its
next position; none where none has been assigned. -/
def Stream.assignedFrame (st : Stream) (p : Path) : Option Nat :=
  match (st.acc.get p).bind (·.next), st.first with
  | some np, some f0 =>
    if np.n ≠ 0 then some np.frame.frame
    else if f0.frame < np.frame.frame then some (np.frame.frame - 1)
    else none
  | _, _ => none

/-- The larger of two frames, where either may be absent. -/
def laterFrame : Option Nat → Option Nat → Option Nat
  | none, y => y
  | x, none => x
  | some a, some b => some (max a b)

/-- R15, R42: the highest frame in which a position has been assigned on any path of the stream. -/
def Stream.highestAssigned (st : Stream) : Option Nat :=
  st.active.pathSet.paths.foldl (fun v p => laterFrame v (st.assignedFrame p)) none

/-- R15: f_stop for a STOP of a running stream. -/
def Stream.stopFrame (st : Stream) : Nat :=
  match st.highestAssigned with
  | some f => f
  | none => (st.clockNow.map (·.frame)).getD 0

/-- R42: f_apply; absent (marked for the first frame) while the stream is ALIGNING. -/
def Stream.applyFrame (st : Stream) : Option Nat :=
  if st.state = .aligning then none
  else
    match st.highestAssigned with
    | some f => some (f + 1)
    | none => st.first.map (·.frame)

/-- R17, R24: the drain timeout, T_{f_stop+1} plus the late limit of the active copy. -/
def Stream.drainDeadline (st : Stream) : Option Nat :=
  st.fStop.map fun f => (frameAt st.active (f + 1)).start + st.active.lateLimit

/-- R6: the first entry of the offset schedule is removed when every path of the set has been assigned a
position in a frame not earlier than the second entry's first frame. -/
def Stream.trimOffsets (st : Stream) : Stream :=
  match st.offsets with
  | _ :: e :: rest =>
    if st.active.pathSet.paths.all fun p =>
        match st.assignedFrame p with
        | none => false
        | some f => e.reaches f
    then { st with offsets := e :: rest }
    else st
  | _ => st

end Sys2Proof.Machine
end

