-- ==== Sys2Proof/Machine/Records.lean ====
section
/-! DEFINITION. The status records (10.6) and the Status Writer (11.2, 11.3): the bytes of each record, the posting
of the oldest pending record, and the clearing of flags by a read. -/
namespace Sys2Proof.Machine

open Sys2Proof

/-! ### Codes (R157) -/

/-- R157: the code of a stream state. -/
def streamStateCode : StreamState → Nat
  | .idle => 0
  | .aligning => 1
  | .armed => 2
  | .running => 3
  | .draining => 4
  | .halted => 5

/-- R157: the code of a lock state. -/
def lockStateCode : LockState → Nat
  | .free => 0
  | .acquiring => 1
  | .locked => 2
  | .holdover => 3

/-- A truth value as a bit. -/
def bit (b : Bool) : Nat := if b then 1 else 0

/-- R157: a signed value in two's complement in 4 bytes. -/
def signed32 (x : Int) : List Byte := leBytes 4 (BitVec.ofInt 32 x).toNat

/-- R157: a launch error, 8000_0000h for "no sample". -/
def errorBytes : Option Int → List Byte
  | none => leBytes 4 0x80000000
  | some e => signed32 e

/-- R157: a margin tracker, FFFF_FFFFh for "no sample". -/
def trackerBytes : Option Nat → List Byte
  | none => leBytes 4 0xFFFFFFFF
  | some v => leBytes 4 v

/-- Zero bytes (R157: bytes not listed are written as 0). -/
def zeros (n : Nat) : List Byte := List.replicate n 0

/-! ### Contents (Tables 10-5 to 10-8) -/

/-- Table 10-5: a stream record, 128 bytes. -/
def Stream.record (st : Stream) : List Byte :=
  leBytes 8 st.events.toNat ++ leBytes 4 (streamStateCode st.state) ++ leBytes 4 st.ring ++
    leBytes 8 ((st.clockNow.map (·.frame)).getD 0) ++ (st.counters.toList.map (leBytes 4)).flatten ++
    trackerBytes (st.margin.trackers.map (·.fast)) ++ trackerBytes (st.margin.trackers.map (·.slow)) ++
    leBytes 4 (bit st.margin.alarm) ++ zeros 4 ++
    errorBytes st.echoStats.a.min ++ errorBytes st.echoStats.a.max ++
    errorBytes st.echoStats.b.min ++ errorBytes st.echoStats.b.max ++ zeros 24

/-- Table 10-6: the device record, 128 bytes. -/
def State.deviceRecord (s : State) : List Byte :=
  leBytes 8 s.status.events.toNat ++ leBytes 8 s.time.now ++
    leBytes 4 (lockStateCode s.lock.state) ++ leBytes 4 s.gate.held.length ++
    signed32 s.lock.rate ++ signed32 s.lock.trim ++ signed32 s.lock.lastError ++
    leBytes 4 (bit s.paths.a.leadAuto + 2 * bit s.paths.b.leadAuto) ++
    leBytes 4 s.paths.a.lead ++ leBytes 4 s.paths.b.lead ++
    errorBytes s.paths.a.lastError ++ errorBytes s.paths.a.errRange.min ++
    errorBytes s.paths.a.errRange.max ++
    errorBytes s.paths.b.lastError ++ errorBytes s.paths.b.errRange.min ++
    errorBytes s.paths.b.errRange.max ++
    (s.status.counters.toList.map (leBytes 4)).flatten ++ zeros 24

/-- Summary bits as a number, the first of them bit 0. -/
def bitsValue : List Bool → Nat
  | [] => 0
  | b :: bs => bit b + 2 * bitsValue bs

/-- Table 10-7: the summary record, 64 bytes. -/
def State.summaryRecord (s : State) : List Byte :=
  leBytes 4 (bitsValue s.summaryBits) ++ leBytes 4 (bit s.status.attn) ++ zeros 56

/-- Table 10-8: the command echo record, 64 bytes. -/
def Decoder.record (d : Decoder) : List Byte :=
  leBytes 4 d.echo.count.toNat ++
    leBytes 1 (kindCode d.sel.target) ++ leBytes 1 (indexCode d.sel.target) ++ leBytes 1 d.sel.next ++
    leBytes 1 (resultNumber d.echo.selectResult) ++
    leBytes 1 d.echo.dataKind ++ leBytes 1 d.echo.dataIndex ++ leBytes 1 d.echo.dataField ++
    leBytes 1 (resultNumber d.echo.dataResult) ++ leBytes 1 (bit d.echo.dataClamped) ++ zeros 3 ++
    leBytes 8 d.echo.dataValue.toNat ++
    leBytes 1 d.echo.actionCode.toNat ++ leBytes 1 d.echo.actionOperand.toNat ++
    leBytes 1 (resultNumber d.echo.actionResult) ++ zeros 37

/-- R157: the content of a record as the state stands. -/
def State.recordContent (s : State) : RecordId → List Byte
  | .summary => s.summaryRecord
  | .device => s.deviceRecord
  | .echo => s.decoder.record
  | .stream i => (s.stream i).record

/-! ### Posting (R162) -/

/-- R125: a path's minimum and maximum launch error set to "no sample". -/
def PathState.clearErrRange (x : PathState) : PathState := { x with errRange := {} }

/-- R125, R126, R162: what forming a record's content changes. -/
def State.afterForming (s : State) : RecordId → State
  | .device => (s.updPath .A PathState.clearErrRange).updPath .B PathState.clearErrRange
  | .stream i => s.updStream i fun st => { st with echoStats := .both {} }
  | .summary | .echo => s

/-- R162: the Status Writer takes the oldest pending record, where the status source holds no posting: the
record leaves the set, its content is formed, and one write of it stands in the status source. -/
def State.post (s : State) : State :=
  match s.ports.statusSource, s.status.updates with
  | none, r :: rest =>
    let p : Posting :=
      { record := r, addr := s.controlBase + recordOffset r, bytes := s.recordContent r }
    ((s.withStatus { s.status with updates := rest }).withPorts
      { s.ports with statusSource := some p }).afterForming r
  | _, _ => s

/-- R162: the command STATUS_POSTING; forming a record latches, masks and queues nothing, so the event needs no
closing. -/
def execStatusPosting (s : State) : Host.Outcome State Fault Refusal :=
  .next (if s.inReset then s else s.post)

/-! ### Read-to-clear (R142, R164) -/

/-- R142: the records that have an event word. -/
def eventRecords : List RecordId := .device :: (List.finRange 24).map RecordId.stream

/-- R140, R142: the event words that a read of a range covers whole. -/
def State.coveredEventWords (s : State) (addr len : Nat) : List RecordId :=
  eventRecords.filter fun r => covers addr len (s.controlBase + recordOffset r) 8

/-- R164: the flags that a returned event word shows set are cleared from the record's latched set, and the
record is queued. -/
def State.clearFlags (s : State) (r : RecordId) (v : BitVec 64) : State :=
  match r with
  | .device =>
    (s.withStatus { s.status with events := s.status.events &&& ~~~(v.truncate 10) }).queueRecord .device
  | .stream i =>
    (s.updStream i fun st => { st with events := st.events &&& ~~~(v.truncate 16) }).queueRecord (.stream i)
  | .summary | .echo => s

/-- R142: the event word of a record in the data returned for a read at an address. -/
def State.eventWordIn (s : State) (r : RecordId) (addr : Nat) (data : List Byte) : BitVec 64 :=
  BitVec.ofNat 64 (leValue (responseSlice data (s.controlBase + recordOffset r - addr) 8))

/-- R142, R164: the data of a read-to-clear read is handed to the Status Writer, word by word. -/
def State.handEventWords (s : State) (addr len : Nat) (data : List Byte) : State :=
  (s.coveredEventWords addr len).foldl (fun s r => s.clearFlags r (s.eventWordIn r addr data)) s

end Sys2Proof.Machine
end

