-- ==== Sys2Proof/Machine/Reference.lean ====
section
/-! DEFINITION. The time base and the Reference Lock (Section 6): the advance, LOAD_EPOCH and the enable, pulses,
the PI update, the step, the judgement and the pulse timeout. -/
namespace Sys2Proof.Machine

open Sys2Proof

/-! ### The time base (6.1) -/

/-- R105: one nanosecond of oscillator time: the time base advances by 1 + rate × 10^-9 ns, its fraction carried,
and stays at its top value. -/
def TimeBase.advance (t : TimeBase) (rate : Int) : TimeBase :=
  let f := ((t.frac : Int) + 1000000000 + rate).toNat
  { now := min top64 (t.now + f / 1000000000), frac := f % 1000000000, osc := t.osc + 1 }

/-! ### Lock states (6.2, 6.3) -/

/-- R109: a change of the lock state: the good count becomes 0 and the device record is queued. -/
def State.setLockState (s : State) (x : LockState) : State :=
  (s.withLock { s.lock with state := x, good := 0 }).queueRecord .device

/-- R115: the pulse deadline at an entry to ACQUIRING by enable or LOAD_EPOCH: half an interval after the first
expected pulse that is not earlier than the time base. -/
def entryDeadline (epoch now interval : Nat) : Nat :=
  let d : Int := (now : Int) - (epoch : Int)
  let j : Int := -((-d).fdiv interval)
  ((epoch : Int) + j * interval + (interval / 2 : Nat)).toNat

/-- R115: the pulse deadline set for entry to ACQUIRING, from the epoch loaded. -/
def State.setEntryDeadline (s : State) : State :=
  s.withLock
    { s.lock with
      deadline := s.lock.epoch.map fun e => entryDeadline e s.time.now s.refRec.interval }

/-- R108: the LOAD_EPOCH action. -/
def State.actLoadEpoch (s : State) : ResultCode × State :=
  let s1 := s.withLock
    { s.lock with epoch := some s.refRec.nextPulse, lastIndex := none, good := 0 }
  let s2 :=
    match s.lock.state with
    | .free => if s.refRec.enable then (s1.setLockState .acquiring).setEntryDeadline else s1
    | .acquiring => s1.setEntryDeadline
    | .locked => ((s1.setLockState .acquiring).setEntryDeadline).latchDevice .unlocked
    | .holdover => s1
  (.done, s2)

/-- R108: a write of enable = 1 that has been stored. -/
def State.enableRef (s : State) : State :=
  let s1 := s.withRefRec { s.refRec with enable := true }
  if s.lock.state = .free && s.lock.epoch.isSome then (s1.setLockState .acquiring).setEntryDeadline
  else s1

/-- R108: a write of enable = 0 that has been stored. -/
def State.disableRef (s : State) : State :=
  let s1 := s.withRefRec { s.refRec with enable := false }
  if s.lock.state = .free then s1
  else
    let s2 := s1.setLockState .free
    s2.withLock { s2.lock with rate := 0, trim := 0, deadline := none }

/-- R107: a clamped value written to a field of the reference record other than enable. -/
def RefRecord.setField (r : RefRecord) (field v : Nat) : RefRecord :=
  match field with
  | 1 => { r with interval := v }
  | 2 => { r with lockWindow := v, unlockWindow := max r.unlockWindow v }
  | 3 => { r with unlockWindow := v }
  | 4 => { r with stepThreshold := v }
  | 5 => { r with nextPulse := v }
  | _ => r

/-! ### A pulse (6.4) -/

/-- R110: the pulse index, the nearest whole number to (c − epoch) / I, halves rounded up. -/
def pulseIndex (c epoch interval : Nat) : Int :=
  (2 * ((c : Int) - (epoch : Int)) + interval).fdiv (2 * interval)

/-- R110: the expected value of a pulse. -/
def pulseExpected (epoch interval : Nat) (k : Int) : Int := (epoch : Int) + k * interval

/-- R112: the error as a rate. -/
def errorPpb (err : Int) (interval : Nat) : Int :=
  clampInt (-1000000) 1000000 ((err * 1000000000).tdiv interval)

/-- R112: the PI update of trim and rate. -/
def RefLock.piUpdate (l : RefLock) (err : Int) (interval : Nat) : RefLock :=
  let ppb := errorPpb err interval
  let trim := clampInt (-200000) 200000 (l.trim - ppb.tdiv 16)
  { l with trim := trim, rate := clampInt (-200000) 200000 (trim - ppb.tdiv 2) }

/-- R92: a path's busy-until moved with a step of the time base, held at 0. -/
def PathState.stepBusy (x : PathState) (move : Int) : PathState :=
  { x with busyUntil := ((x.busyUntil : Int) + move).toNat }

/-- R113: the step: the time base reads `e`, each busy-until moves with it, STEPPED is latched, the good count
becomes 0. -/
def State.stepTime (s : State) (err : Int) : State :=
  let s1 := s.withTime { s.time with now := ((s.time.now : Int) - err).toNat }
  let s2 := (s1.updPath .A (·.stepBusy (-err))).updPath .B (·.stepBusy (-err))
  (s2.withLock { s2.lock with good := 0 }).latchDevice .stepped

/-- R113: whether a step is taken for a new pulse in ACQUIRING. -/
def State.stepTaken (s : State) (err expected : Int) : Bool :=
  decide (s.refRec.stepThreshold < err.natAbs) && s.allIdle && decide (0 ≤ expected) &&
    decide (expected ≤ (top64 : Int))

/-- R112: the PI update made for a pulse. -/
def State.piPulse (s : State) (err : Int) : State := s.withLock (s.lock.piUpdate err s.refRec.interval)

/-- R114: the judgement of a pulse in ACQUIRING for which no step is taken. -/
def State.judgeAcquiring (s : State) (err : Int) : State :=
  let good := if err.natAbs ≤ s.refRec.lockWindow then s.lock.good + 1 else 0
  if good = 4 then (s.setLockState .locked).latchDevice .locked
  else s.withLock { s.lock with good := good }

/-- R114: the judgement of a pulse in LOCKED. -/
def State.judgeLocked (s : State) (err : Int) : State :=
  if s.refRec.unlockWindow < err.natAbs then (s.setLockState .acquiring).latchDevice .unlocked else s

/-- R112 to R114: a new pulse handled by the lock state it was taken in. -/
def State.newPulse (s : State) (err expected : Int) : State :=
  match s.lock.state with
  | .free => s
  | .acquiring =>
    if s.stepTaken err expected then s.stepTime err else (s.piPulse err).judgeAcquiring err
  | .locked => (s.piPulse err).judgeLocked err
  | .holdover => (s.piPulse err).setLockState .acquiring

/-- R111, R115: what every new pulse sets: the last-taken index, the last error and the pulse deadline. -/
def RefLock.takeNew (l : RefLock) (k err expected : Int) (interval : Nat) : RefLock :=
  { l with
    lastIndex := some k, lastError := err
    deadline := some (expected + interval + (interval / 2 : Nat)).toNat }

/-- R110, R111: a REF edge: not taken in FREE; otherwise counted, the device record queued, and handled as a
duplicate or as a new pulse. Without an epoch nothing can be indexed: no state but FREE is without one. -/
def State.refPulse (s : State) : State :=
  match s.lock.state, s.lock.epoch with
  | .free, _ => s
  | _, none => s
  | _, some epoch =>
    let k := pulseIndex s.time.now epoch s.refRec.interval
    let e := pulseExpected epoch s.refRec.interval k
    let err := (s.time.now : Int) - e
    let s1 := (s.countDevice .pulsesTaken).queueRecord .device
    if s.lock.lastIndex = some k then (s1.latchDevice .pulseDup).countDevice .duplicatePulses
    else (s1.withLock (s.lock.takeNew k err e s.refRec.interval)).newPulse err e

/-! ### The pulse timeout (6.5) -/

/-- R115: whether the time base has reached the pulse deadline in ACQUIRING or LOCKED. -/
def State.pulseDue (s : State) : Bool :=
  (s.lock.state == .acquiring || s.lock.state == .locked) &&
    match s.lock.deadline with
    | none => false
    | some t => decide (t ≤ s.time.now)

/-- R115: the pulse timeout. -/
def State.pulseTimeout (s : State) : State :=
  if s.pulseDue then
    let s1 := s.setLockState .holdover
    (s1.withLock { s1.lock with rate := s1.lock.trim, deadline := none }).latchDevice .holdover
  else s

/-- R110: the command REF_PULSE. -/
def execRefPulse (s : State) : Host.Outcome State Fault Refusal := .next (event State.refPulse s)

/-- R115: the command PULSE_TIMEOUT. -/
def execPulseTimeout (s : State) : Host.Outcome State Fault Refusal := .next (event State.pulseTimeout s)

end Sys2Proof.Machine
end

