-- ==== Sys2Proof/Machine/Echo.lean ====
section
/-! DEFINITION. The Echo Unit (Section 7): pushes, pairing, launch errors and the automatic lead. -/
namespace Sys2Proof.Machine

open Sys2Proof

/-- R128: the echo-lost counter of a path. -/
def echoLostCounter : Path → DeviceCounter
  | .A => .echoLostA
  | .B => .echoLostB

/-- R128: the echo-stray counter of a path. -/
def echoStrayCounter : Path → DeviceCounter
  | .A => .echoStrayA
  | .B => .echoStrayB

/-- R128: one entry discarded as lost. -/
def State.echoLost (s : State) (p : Path) : State :=
  (s.latchDevice .echoLost).countDevice (echoLostCounter p)

/-- R121: the room made for a push: at a full queue the oldest entry is discarded as lost. -/
def State.echoMakeRoom (s : State) (p : Path) : State :=
  if 32 ≤ (s.paths.get p).echoQueue.length then
    (s.updPath p fun x => { x with echoQueue := x.echoQueue.tail }).echoLost p
  else s

/-- R121: an echo entry is pushed as the youngest of its path's queue. -/
def State.echoPush (s : State) (p : Path) (e : EchoEntry) : State :=
  (s.echoMakeRoom p).updPath p fun x => { x with echoQueue := x.echoQueue ++ [e] }

/-- R125: a launch error folded into a minimum and a maximum. -/
def ErrRange.fold (r : ErrRange) (e : Int) : ErrRange :=
  { min := some (match r.min with | none => e | some m => if e < m then e else m)
    max := some (match r.max with | none => e | some m => if m < e then e else m) }

/-- R125: the launch error of an echo captured at `c` for a launch time. -/
def launchError (c launch : Nat) : Int := clampInt (-2147483647) 2147483647 ((c : Int) - (launch : Int))

/-- R127: the lead after a pairing in AUTO. -/
def autoLead (lead : Nat) (e : Int) : Nat := (clampInt 0 50000 ((lead : Int) + e.tdiv 8)).toNat

/-- R125, R127: the path's part of a pairing: its statistics and, in AUTO, its lead. -/
def PathState.pairEcho (x : PathState) (e : Int) : PathState :=
  { x with
    lastError := some e
    errRange := x.errRange.fold e
    lead := if x.leadAuto then autoLead x.lead e else x.lead }

/-- R125 to R127: the paired entry's launch error is formed and folded in; the stream's statistics take it
unless the entry's past-run mark is set. -/
def State.pairEcho (s : State) (p : Path) (e : EchoEntry) : State :=
  let err := launchError s.time.now e.launch
  let s1 := s.updPath p fun x => x.pairEcho err
  if e.pastRun then s1
  else s1.updStream e.stream fun st =>
    { st with echoStats := st.echoStats.set p ((st.echoStats.get p).fold err) }

/-- R123: the search of a queue from its oldest entry: how many older entries stand before the first of a tag,
that entry, and the entries behind it. -/
def echoSearch (t : Tag) : List EchoEntry → Option (Nat × EchoEntry × List EchoEntry)
  | [] => none
  | e :: rest =>
    if e.tag = t then some (0, e, rest)
    else
      match echoSearch t rest with
      | none => none
      | some (n, x, after) => some (n + 1, x, after)

/-- R123: `n` entries discarded as lost, each latched and counted. -/
def State.echoLostTimes (s : State) (p : Path) : Nat → State
  | 0 => s
  | n + 1 => (s.echoLost p).echoLostTimes p n

/-- R123: a strobe on a path with a tag. -/
def State.echoStrobe (s : State) (p : Path) (t : Tag) : State :=
  match s.tags[t.val] with
  | none => s
  | some _ =>
    match echoSearch t (s.paths.get p).echoQueue with
    | none => (s.latchDevice .echoStray).countDevice (echoStrayCounter p)
    | some (n, e, rest) =>
      ((s.echoLostTimes p n).updPath p fun x => { x with echoQueue := rest }).pairEcho p e

/-- R122: every echo entry of a stream marked as of a past run, in either queue. -/
def State.markEchoPast (s : State) (i : StreamId) : State :=
  let f := fun (x : PathState) =>
    { x with echoQueue := x.echoQueue.map fun e => if e.stream = i then { e with pastRun := true } else e }
  (s.updPath .A f).updPath .B f

/-- R123: the command ECHO_STROBE. -/
def execEchoStrobe (p : Path) (t : Tag) (s : State) : Host.Outcome State Fault Refusal :=
  .next (event (fun s => s.echoStrobe p t) s)

end Sys2Proof.Machine
end

