-- ==== Sys2Proof/Machine/FillTracker.lean ====
section
/-! DEFINITION. The Fill Tracker (Section 3): the accounting of a fill write against the segment records, and the
record's side of a grant. -/
namespace Sys2Proof.Machine

open Sys2Proof

/-- The payload bytes of one write in one segment: the slot, the segment, how many, and the sum of their
values. -/
structure Touch where
  slot : Nat
  seg : Nat
  count : Nat
  sum : BitVec 32
  deriving DecidableEq, Repr

/-- A payload byte at the front of the touches behind it: it joins the first of them if that is of its own
segment. -/
def addTouch (slot seg : Nat) (b : Byte) : List Touch → List Touch
  | [] => [⟨slot, seg, 1, b.zeroExtend 32⟩]
  | t :: ts =>
    if t.slot = slot ∧ t.seg = seg then
      { t with count := t.count + 1, sum := b.zeroExtend 32 + t.sum } :: ts
    else ⟨slot, seg, 1, b.zeroExtend 32⟩ :: t :: ts

/-- R53, R54: a write cut at segment boundaries, its gap bytes and the bytes outside the window discarded, in
increasing address order. -/
def touches (st : Stream) : Nat → List Byte → List Touch
  | _, [] => []
  | x, b :: bs =>
    match st.payloadSpot x with
    | none => touches st (x + 1) bs
    | some (j, k) => addTouch j k b (touches st (x + 1) bs)

/-- R55: the line a write to slot j belongs to: the one of the R lines from q_head on that lives there. -/
def writeLine (qHead ring slot : Nat) : Nat := qHead + (slot + ring - qHead % ring) % ring

/-- R55: the record a write finds, re-armed for the line if it holds another. -/
def rearmFor (r : SegRecord) (line : Nat) : SegRecord :=
  if r.seq = lineSeq line then r else freshRecord (lineSeq line) (.both false)

/-- R56, R57: `c` payload bytes of a given sum accounted into a record at an instant. -/
def accountInto (r : SegRecord) (segLen c : Nat) (sum : BitVec 32) (now : Nat) : SegRecord :=
  let bytes := min segLen (r.bytes + c)
  { r with
    bytes := bytes
    writeSum := r.writeSum + sum
    readyTime := if r.bytes < segLen ∧ bytes = segLen then some now else r.readyTime }

/-- Whether a released set is not empty. -/
def releasedAny (r : SegRecord) : Bool := r.released.a || r.released.b

/-- R55 to R58: one touched segment of a write is accounted. -/
def State.accountTouch (s : State) (i : StreamId) (t : Touch) : State :=
  let st := s.stream i
  let r := rearmFor (s.segRecord i t.slot t.seg) (writeLine (st.qHead.getD 0) st.ring t.slot)
  let s1 := s.setSegRecord i t.slot t.seg (accountInto r st.active.segLen t.count t.sum s.time.now)
  if releasedAny r then (s1.latch i .torn).count i .torn else s1

/-- R54: the payload bytes of a write that lie inside a stream's window are accounted, segment by segment. -/
def State.accountWrite (s : State) (i : StreamId) (addr : Nat) (data : List Byte) : State :=
  (touches (s.stream i) addr data).foldl (fun s t => s.accountTouch i t) s

/-- R54, R140: a write is accounted in every active window it touches. -/
def State.accountAll (s : State) (addr : Nat) (data : List Byte) : State :=
  s.eachStream fun i s => if (s.stream i).state.isActive then s.accountWrite i addr data else s

/-- R140: whether a write has payload bytes inside an active window. -/
def State.hasPayload (s : State) (addr : Nat) (data : List Byte) : Bool :=
  (List.finRange 24).any fun i =>
    (s.stream i).state.isActive && !(touches (s.stream i) addr data).isEmpty

/-- Table 3-4: the cases of a grant at a record. -/
inductive GrantCase where
  | ready
  | notReady
  | rearm
  | passed
  | ahead
  deriving DecidableEq, Repr

/-- R59, Table 3-4: the case of a grant of a line at a record, with q_head as it stands. -/
def grantCase (r : SegRecord) (line segLen qHead ring : Nat) : GrantCase :=
  if r.seq = lineSeq line then
    if fillState segLen r.bytes = .ready then .ready else .notReady
  else if line < qHead then .passed
  else if line ≤ qHead + ring - 1 then .rearm
  else .ahead

/-- R59, Table 3-4: the record after a grant on a path. -/
def grantRecord (c : GrantCase) (r : SegRecord) (line : Nat) (p : Path) : SegRecord :=
  match c with
  | .ready | .notReady => { r with released := r.released.set p true }
  | .rearm => freshRecord (lineSeq line) ((PathPair.both false).set p true)
  | .passed | .ahead => r

/-- R59: a granted line and segment are presented to the Fill Tracker: the case, the record found, and the
state with the record changed. -/
def State.presentGrant (s : State) (i : StreamId) (p : Path) (line seg : Nat) :
    GrantCase × SegRecord × State :=
  let st := s.stream i
  let slot := line % st.ring
  let r := s.segRecord i slot seg
  let c := grantCase r line st.active.segLen (st.qHead.getD 0) st.ring
  match c with
  | .passed | .ahead => (c, r, s)
  | .ready | .notReady | .rearm => (c, r, s.setSegRecord i slot seg (grantRecord c r line p))

end Sys2Proof.Machine
end

