-- ==== Sys2Proof/Machine/Forwarder.lean ====
section
/-! DEFINITION. The forwarders and the memory port (9.5): where a released read waits, the order of the send
forwarder, and the arbiter's grant. -/
namespace Sys2Proof.Machine

open Sys2Proof

/-- R146: a send-forwarder item's rank among items that became ready at the same instant: pass requests first. -/
def bodyRank : SendBody → Nat
  | .pass _ => 0
  | .released _ => 1

/-- R146: the grant time of a released read (0 for a pass request, which has none). -/
def bodyGrant : SendBody → Nat
  | .pass _ => 0
  | .released r => r.grantTime

/-- R146: path A's before path B's (0 for a pass request). -/
def bodyPath : SendBody → Nat
  | .pass _ => 0
  | .released r => pathNumber r.path

/-- R146: whether an item that becomes ready goes before one that became ready at the same instant. -/
def SendItem.precedes (x y : SendItem) : Bool :=
  x.readyAt == y.readyAt &&
    (decide (bodyRank x.body < bodyRank y.body) ||
      (decide (bodyRank x.body = bodyRank y.body) &&
        (decide (bodyGrant x.body < bodyGrant y.body) ||
          (decide (bodyGrant x.body = bodyGrant y.body) && decide (bodyPath x.body < bodyPath y.body)))))

/-- R146: an item joins the ready requests of the send forwarder: behind all that became ready earlier, and
among those of the same instant in their order. -/
def insertReady (x : SendItem) : List SendItem → List SendItem
  | [] => [x]
  | y :: ys => if x.precedes y then x :: y :: ys else y :: insertReady x ys

/-- A request becomes ready in the send forwarder at the present instant. -/
def State.sendReady (s : State) (b : SendBody) : State :=
  s.withPorts { s.ports with sendReady := insertReady ⟨s.time.osc, b⟩ s.ports.sendReady }

/-- R147: how many requests of the fill forwarder, from its head on, stand up to and including the last
accounted write; 0 where it holds none. -/
def accountedDepth : List FillItem → Nat
  | [] => 0
  | x :: xs =>
    match accountedDepth xs with
    | 0 => if x.cls = .accounted then 1 else 0
    | n + 1 => n + 2

/-- R146, R147: a released read enters the send forwarder: ready at its grant, or held until the last fill write
accounted before it has been granted to memory. -/
def State.forwardRead (s : State) (r : Released) : State :=
  match accountedDepth s.ports.fillForwarder with
  | 0 => s.sendReady (.released r)
  | n + 1 => s.withPorts { s.ports with sendBlocked := s.ports.sendBlocked ++ [⟨n + 1, r⟩] }

/-- R147: after a fill-port request has been granted, each blocked read waits for one fewer; those that wait for
none become ready at this instant. -/
def State.unblock (s : State) : State :=
  let l := s.ports.sendBlocked.map fun b => { b with wait := b.wait - 1 }
  let s1 := s.withPorts { s.ports with sendBlocked := l.filter fun b => b.wait ≠ 0 }
  (l.filter fun b => b.wait = 0).foldl (fun s b => s.sendReady (.released b.read)) s1

/-- How many pass requests the send forwarder holds (R146). -/
def Ports.passCount (x : Ports) : Nat := x.sendReady.countP fun y => bodyRank y.body == 0

/-- The request that memory is given for an item of the send forwarder. -/
def memOfBody : SendBody → MemRequest
  | .pass r => .send r
  | .released r => .released r

/-- R146: whether a source has a ready request at its head. -/
def Ports.waiting (x : Ports) : Source → Bool
  | .fill => !x.fillForwarder.isEmpty
  | .send => !x.sendReady.isEmpty
  | .status => x.statusSource.isSome

/-- R146: the sources after the last-granted one, in the rotation fill, send, status. -/
def rotationFrom : Source → List Source
  | .fill => [.send, .status, .fill]
  | .send => [.status, .fill, .send]
  | .status => [.fill, .send, .status]

/-- R146: the source the arbiter grants next. -/
def Ports.nextSource (x : Ports) : Option Source := (rotationFrom x.lastGranted).find? x.waiting

/-- R146, R162: the head request of a source is passed to memory and leaves the source, which becomes the
last-granted source. -/
def State.grantSource (s : State) (src : Source) : State :=
  let x := { s.ports with lastGranted := src }
  match src with
  | .fill =>
    match x.fillForwarder with
    | [] => s
    | r :: rest =>
      (s.withPorts { x with fillForwarder := rest, atMemory := x.atMemory ++ [.fill r] }).unblock
  | .send =>
    match x.sendReady with
    | [] => s
    | r :: rest => s.withPorts { x with sendReady := rest, atMemory := x.atMemory ++ [memOfBody r.body] }
  | .status =>
    match x.statusSource with
    | none => s
    | some p => s.withPorts { x with statusSource := none, atMemory := x.atMemory ++ [.posting p] }

/-- R146: the memory port can take a request, and the arbiter grants one if a source waits. -/
def State.memoryGrant (s : State) : State :=
  match s.ports.nextSource with
  | none => s
  | some src => s.grantSource src

/-- R146: the command MEMORY_PORT_GRANT. -/
def execMemoryPortGrant (s : State) : Host.Outcome State Fault Refusal :=
  .next (event State.memoryGrant s)

end Sys2Proof.Machine
end

