-- ==== Sys2Proof/Machine/MarginMonitor.lean ====
section
/-! DEFINITION. The Margin Monitor (Section 8): a sample's effect on the trackers and the alarm. -/
namespace Sys2Proof.Machine

open Sys2Proof

/-- R130: the sample of a grant, from the grant time and the ready time. -/
def marginSampleOf (tg ready : Nat) : Nat :=
  (clampInt 0 2147483647 ((tg : Int) - (ready : Int))).toNat

/-- R132: the fast tracker after a sample. -/
def fastStep (f m : Nat) : Nat := if m < f then m else f + (m - f) / 16

/-- R133: the slow tracker after a sample taken while the alarm is clear. -/
def slowStep (v m : Nat) : Nat := ((v : Int) + ((m : Int) - (v : Int)).tdiv 1024).toNat

/-- R131 to R133: the trackers after a sample; S is frozen while the alarm is raised. -/
def Margin.track (g : Margin) (m : Nat) : Trackers :=
  match g.trackers with
  | none => { fast := m, slow := m }
  | some t => { fast := fastStep t.fast m, slow := if g.alarm then t.slow else slowStep t.slow m }

/-- R134: the alarm after the judgement of the fast tracker. -/
def judgeAlarm (alarm : Bool) (fast threshold hysteresis : Nat) : Bool :=
  if alarm then decide (fast < threshold + hysteresis) else decide (fast < threshold)

/-- R131: a sample of a stream is taken: trackers, then the alarm, with its flag at a passage. -/
def State.marginSample (s : State) (i : StreamId) (m : Nat) : State :=
  let st := s.stream i
  let t := st.margin.track m
  let alarm := judgeAlarm st.margin.alarm t.fast st.active.marginThreshold st.active.marginHysteresis
  let s1 := s.updStream i fun st => { st with margin := { trackers := some t, alarm := alarm } }
  if !st.margin.alarm && alarm then s1.latch i .marginLow
  else if st.margin.alarm && !alarm then s1.latch i .marginOk
  else s1

end Sys2Proof.Machine
end

