-- ==== Sys2Proof/Machine/Meter.lean ====
section
/-! DEFINITION. The receiver meters and the permit times (5.3): the present level, the allowance, the test at a
passage to ELIGIBLE and at a charge, the deferral, and the charge itself. -/
namespace Sys2Proof.Machine

open Sys2Proof

/-- R93: the present level of a meter at an instant not earlier than its update time. -/
def meterLevel (d : Nat) (m : Meter) (t : Nat) : Nat := m.level - d * (t - m.updated)

/-- R95: the allowance, (depth − 1) × G units. -/
def Params.allowance (p : Params) : Nat := (p.meterDepth - 1) * p.gapG

/-- The present level of a stream-path's meter; 0 where there is no meter. -/
def Stream.levelAt (st : Stream) (p : Path) (t : Nat) : Nat :=
  match st.meters.get p with
  | none => 0
  | some m => meterLevel st.active.gapD m t

/-- R95: whether a release on the stream-path is permitted at an instant. -/
def Stream.permits (st : Stream) (p : Path) (t : Nat) : Bool := st.levelAt p t ≤ st.active.allowance

/-- R95: the permit time that a test at an instant gives. -/
def Stream.permitTime (st : Stream) (p : Path) (t : Nat) : Nat :=
  if st.permits p t then t
  else t + ceilDiv (st.levelAt p t - st.active.allowance) st.active.gapD

/-- R96: an entry is deferred: DEFERRED is latched, and where its mark is clear the mark is set and the deferred
count incremented. -/
def State.deferEntry (s : State) (e : HeldRead) : State :=
  let s := if e.deferred then s
    else (s.updEntry e.ticket fun x => { x with deferred := true }).count e.stream .deferred
  s.latch e.stream .deferred

/-- R95, R96: the test of an entry at its passage to ELIGIBLE or at a charge of its meter. -/
def State.testPermit (s : State) (e : HeldRead) : State :=
  let st := s.stream e.stream
  let s1 := s.updEntry e.ticket fun x => { x with permit := some (st.permitTime e.path s.time.now) }
  if st.permits e.path s.time.now then s1 else s1.deferEntry e

/-- R97: whether an entry's permit time, as it stands, permits it at an instant. -/
def HeldRead.wasPermitted (e : HeldRead) (now : Nat) : Bool :=
  match e.permit with
  | none => false
  | some t => t ≤ now

/-- R97: an entry's permit time computed again with a new allowance; it is deferred where the allowance forbids
an entry that was permitted. -/
def State.retestPermit (s : State) (e : HeldRead) : State :=
  let st := s.stream e.stream
  let s1 := s.updEntry e.ticket fun x => { x with permit := some (st.permitTime e.path s.time.now) }
  if !st.permits e.path s.time.now && e.wasPermitted s.time.now then s1.deferEntry e else s1

/-- The ELIGIBLE entries of a stream in arrival order. -/
def State.eligibleOf (s : State) (i : StreamId) : List HeldRead :=
  s.gate.held.filter fun e => e.stream = i && e.phase == .eligible

/-- R97: every ELIGIBLE entry of a stream retested, on each path. -/
def State.retestStream (s : State) (i : StreamId) : State :=
  (s.eligibleOf i).foldl State.retestPermit s

/-- R94, R95: the meter of a stream-path is charged with G at the present instant, and the permit time of every
ELIGIBLE entry of the stream-path is computed again. -/
def State.chargeMeter (s : State) (i : StreamId) (p : Path) : State :=
  let s1 := s.updStream i fun st =>
    { st with
      meters := st.meters.set p
        (some { level := st.levelAt p s.time.now + st.active.gapG, updated := s.time.now }) }
  ((s1.eligibleOf i).filter fun e => e.path = p).foldl State.testPermit s1

/-- R73, R95, R96: an entry passes from WAITING to ELIGIBLE, its mark clear, and is tested. -/
def State.makeEligible (s : State) (t : Nat) : State :=
  match s.entry t with
  | none => s
  | some e =>
    if e.phase = .waiting then
      let e1 := { e with phase := .eligible, deferred := false }
      (s.updEntry t fun x => { x with phase := .eligible, deferred := false }).testPermit e1
    else s

/-- R8, R97: the pending-apply record marked for frame f is taken: the class L fields are replaced, an entry
joins the offset schedule, the record becomes absent, APPLIED is latched and the permit times are computed
again. -/
def State.takeApply (s : State) (i : StreamId) (f : Nat) : State :=
  match (s.stream i).pendingApply with
  | none => s
  | some r =>
    if r.frame = some f then
      ((s.updStream i fun st =>
        { st with
          active := st.active.withLive r.live
          offsets := st.offsets ++ [⟨some f, r.live.launchOffset⟩]
          pendingApply := none }).latch i .applied).retestStream i
    else s

end Sys2Proof.Machine
end

