-- ==== Sys2Proof/Machine/ReleaseGate.lean ====
section
/-! DEFINITION. The Release Gate and the Path Arbiter (Sections 4 and 5): the decision and the consequences of a
grant, the choice of the entry granted, the assignment of positions to arriving reads and its judgement,
and the events of held entries. -/
namespace Sys2Proof.Machine

open Sys2Proof

/-! ### The grant (4.5) -/

/-- R75: the outcome of an underrun under a fill policy. -/
def underrunOutcome : FillPolicy → ReadOutcome
  | .stale => .underrunStale
  | .pattern => .underrunPattern
  | .error => .underrunError

/-- R74, R76 to R79: the answer that an outcome starts. -/
def answerOf (st : Stream) (e : HeldRead) : ReadOutcome → HeldAnswer
  | .normal | .underrunStale => .awaited
  | .underrunPattern => .returning (.data (fillBytes st.active.fillWord 0 e.len))
  | .underrunError => .returning .error

/-- R82: whether an outcome returns data. -/
def returnsData : ReadOutcome → Bool
  | .normal | .underrunStale | .underrunPattern => true
  | .underrunError => false

/-- R79: whether an outcome forwards the read to memory. -/
def forwardsRead : ReadOutcome → Bool
  | .normal | .underrunStale => true
  | .underrunPattern | .underrunError => false

/-- R88: the released counter of a path. -/
def releasedCounter : Path → StreamCounter
  | .A => .releasedA
  | .B => .releasedB

/-- R91: the wire time, in ns, of a packet of a segment length on a path. -/
def PathState.wireTime (x : PathState) (segLen : Nat) : Nat :=
  ceilDiv ((segLen + x.overhead) * x.byteTime) 1000

/-- R102: the rotation register of a class set to the granted stream. -/
def PathState.setWinner (x : PathState) (classOne : Bool) (i : StreamId) : PathState :=
  if classOne then { x with lastWinner1 := i } else { x with lastWinner0 := i }

/-- R75: what a grant decides: the outcome, the write-sum snapshot and the ready time of a NORMAL release. -/
structure Decision where
  outcome : ReadOutcome
  snapshot : Option (BitVec 32)
  readyTime : Option Nat
  deriving DecidableEq, Repr

/-- R5, R8, R74, R75: the fill policy that the grant of an entry uses: that of its stream's active copy at the grant,
also where a pending-apply record has replaced it since the entry's assignment. R42's last word on positions
assigned before an APPLY is read with these rules (DESIGN CHOICE, notes/assumptions/24.md). -/
def State.grantPolicy (s : State) (e : HeldRead) : FillPolicy := (s.stream e.stream).active.policy

/-- R75: the decision of a grant, and the state with the segment record changed. A mismatched read presents
nothing and is an underrun. -/
def State.decideGrant (s : State) (e : HeldRead) (a : Assigned) : Decision × State :=
  let policy := s.grantPolicy e
  if a.matched then
    match s.presentGrant e.stream e.path a.line a.seg with
    | (.ready, r, s1) => (⟨.normal, some r.writeSum, r.readyTime⟩, s1)
    | (_, _, s1) => (⟨underrunOutcome policy, none, none⟩, s1)
  else (⟨underrunOutcome policy, none, none⟩, s)

/-- R82: the hand-offs of a grant that returns data: the path's busy-until and the meter charge, the echo entry,
and the margin sample of a NORMAL release on the stream's first path. -/
def State.handOff (s : State) (e : HeldRead) (a : Assigned) (d : Decision) : State :=
  if returnsData d.outcome then
    let st := s.stream e.stream
    let s1 := s.updPath e.path fun x =>
      { x with busyUntil := s.time.now + x.wireTime st.active.segLen }
    let s2 := s1.chargeMeter e.stream e.path
    let s3 := s2.echoPush e.path { tag := e.tag, stream := e.stream, launch := a.launch, pastRun := false }
    match d.outcome, d.readyTime with
    | .normal, some ready =>
      if st.active.pathSet.firstPath = e.path then s3.marginSample e.stream (marginSampleOf s.time.now ready)
      else s3
    | _, _ => s3
  else s

/-- R76: an underrun is latched and counted. -/
def State.noteUnderrun (s : State) (i : StreamId) (o : ReadOutcome) : State :=
  if o = .normal then s else (s.latch i .underrun).count i .underruns

/-- R79: a NORMAL or UNDERRUN-STALE read goes to memory through the send forwarder. -/
def State.forwardGranted (s : State) (e : HeldRead) (o : ReadOutcome) : State :=
  if forwardsRead o then
    s.forwardRead
      { ticket := e.ticket, tag := e.tag, addr := e.addr, len := e.len, path := e.path
        grantTime := s.time.now }
  else s

/-- R74: the grant of an entry, at the present time base. -/
def State.grant (s : State) (e : HeldRead) : State :=
  match e.assigned with
  | none => s
  | some a =>
    let st := s.stream e.stream
    let (d, s1) := s.decideGrant e a
    let s2 := s1.updEntry e.ticket fun x =>
      { x with
        phase := .forwarded, outcome := some d.outcome, snapshot := d.snapshot, permit := none
        deferred := false, answer := answerOf st x d.outcome }
    let s3 := (s2.updPath e.path fun x => x.setWinner st.active.classOne e.stream).count e.stream
      (releasedCounter e.path)
    (((s3.noteUnderrun e.stream d.outcome).forwardGranted e d.outcome).handOff e a d).consume e.stream

/-! ### The choice (5.4) -/

/-- R99: whether an entry is eligible for grant on a path at the present instant. -/
def State.grantable (s : State) (p : Path) (e : HeldRead) : Bool :=
  decide (e.path = p) && (s.paths.get p).enable && e.phase == .eligible &&
    (match e.permit with | none => false | some t => decide (t ≤ s.time.now)) &&
    decide ((s.paths.get p).busyUntil ≤ s.time.now)

/-- The release time an entry holds (0 where it holds none). -/
def HeldRead.release (e : HeldRead) : Nat := (e.assigned.map (·.release)).getD 0

/-- R101: how far a stream stands behind the last winner of its class, in increasing stream number wrapping from
23 to 0; the last winner's own stream stands last. -/
def rotationDistance (last i : StreamId) : Nat := (i.val + 23 - last.val) % 24

/-- R101: an entry's distance in its class's rotation on a path. -/
def State.turn (s : State) (p : Path) (e : HeldRead) : Nat :=
  if (s.stream e.stream).active.classOne then rotationDistance (s.paths.get p).lastWinner1 e.stream
  else rotationDistance (s.paths.get p).lastWinner0 e.stream

/-- R101: the entry's class as a rank: class 1 before class 0. -/
def State.classRank (s : State) (e : HeldRead) : Nat :=
  if (s.stream e.stream).active.classOne then 0 else 1

/-- R101: whether one entry wins over another: by release time, class, rotation and arrival. -/
def State.wins (s : State) (p : Path) (x y : HeldRead) : Bool :=
  if x.release ≠ y.release then decide (x.release < y.release)
  else if s.classRank x ≠ s.classRank y then decide (s.classRank x < s.classRank y)
  else if s.turn p x ≠ s.turn p y then decide (s.turn p x < s.turn p y)
  else decide (x.ticket < y.ticket)

/-- R101: the winner among entries. -/
def State.best (s : State) (p : Path) : List HeldRead → Option HeldRead
  | [] => none
  | x :: xs =>
    match s.best p xs with
    | none => some x
    | some y => if s.wins p y x then some y else some x

/-- R100, R101: the entry that the arbiter of a path would grant now. -/
def State.winner (s : State) (p : Path) : Option HeldRead :=
  s.best p (s.gate.held.filter (s.grantable p))

/-- R100: the arbiter of a path takes grants, at most `n` of them, while the path is free and an entry is
eligible for grant. -/
def State.arbitrateTimes (s : State) (p : Path) : Nat → State
  | 0 => s
  | n + 1 =>
    match s.winner p with
    | none => s
    | some e => (s.grant e).arbitrateTimes p n

/-- R73: the time base has reached a WAITING entry's release time. -/
def State.releaseDue (s : State) (e : HeldRead) : Bool :=
  e.phase == .waiting && decide (e.release ≤ s.time.now)

/-- R73, R99: the WAITING entries of a path whose release time has come, in arrival order. -/
def State.dueOn (s : State) (p : Path) : List HeldRead :=
  s.gate.held.filter fun e => decide (e.path = p) && s.releaseDue e

/-- R73, R99, R101: every WAITING entry of a path whose release time has come passes to ELIGIBLE, so that the
reads due at one instant stand before the arbiter together, whichever of their events is taken first
(DEDUCED, notes/assumptions/25.md). -/
def State.wake (s : State) (p : Path) : State :=
  (s.dueOn p).foldl (fun s e => s.makeEligible e.ticket) s

/-- R100: the grants of one event on a path, among all entries that are due: a grant takes its entry out of
ELIGIBLE, so there are no more of them than entries. -/
def State.arbitrate (s : State) (p : Path) : State :=
  let s1 := s.wake p
  s1.arbitrateTimes p s1.gate.held.length

/-- R100: the grants of one event on both paths; where both arbiters can grant, their order is a free value
(notes/assumptions/6.md). -/
def State.arbitrateBoth (s : State) : State :=
  let s1 := (s.wake .A).wake .B
  if (s1.winner .A).isSome && (s1.winner .B).isSome then
    if Config.grantAFirst s1.freeIndex then ((s1.drawFree).arbitrate .A).arbitrate .B
    else ((s1.drawFree).arbitrate .B).arbitrate .A
  else (s1.arbitrate .A).arbitrate .B

/-! ### Assignment and judgement (2.5, 4.2, 4.3) -/

/-- R34: a surplus read of a draining stream: DROP, the surplus count, an error answer; no position. -/
def State.surplus (s : State) (e : HeldRead) : State :=
  ((s.latch e.stream .drop).count e.stream .surplus).answerError e.ticket

/-- R35: a read dropped at assignment: error answer, DROP, the dropped count, its position consumed. -/
def State.dropRead (s : State) (e : HeldRead) : State :=
  (((s.answerError e.ticket).latch e.stream .drop).count e.stream .dropped).consume e.stream

/-- R36: the drop mode of a stream-path set or cleared. -/
def State.setDrop (s : State) (i : StreamId) (p : Path) (d : Option Nat) : State :=
  s.updStream i fun st => { st with acc := st.acc.set p ((st.acc.get p).map fun a => { a with drop := d }) }

/-- R32, R33: the accumulator of a stream-path advanced past a position. -/
def State.advance (s : State) (i : StreamId) (p : Path) (np : NextPos) : State :=
  s.updStream i fun st =>
    { st with
      acc := st.acc.set p ((st.acc.get p).map fun a => { a with next := some (posStep st.active np) }) }

/-- R37: a late read is latched and counted. -/
def State.noteLate (s : State) (i : StreamId) (release : Nat) : State :=
  if release < s.time.now then (s.latch i .late).count i .late else s

/-- R71: the sequence check's effect on the stream-path's count, the flag and the sequence count. -/
def State.noteSequence (s : State) (i : StreamId) (p : Path) (matched : Bool) : State :=
  if matched then s.updStream i fun st => { st with mismatches := st.mismatches.set p 0 }
  else
    ((s.updStream i fun st => { st with mismatches := st.mismatches.set p (st.mismatches.get p + 1) }).latch
      i .sequence).count i .sequence

/-- R72: the stream halts where the check has raised the stream-path's count to 8. -/
def State.haltCheck (s : State) (i : StreamId) (p : Path) : State :=
  if 8 ≤ (s.stream i).mismatches.get p then s.enterHalted i else s

/-- R69, R71 to R73: a read given a position is checked, placed in WAITING, passed on to ELIGIBLE where its
release time is not later than now, and halts the stream at the eighth mismatch. -/
def State.placeRead (s : State) (e : HeldRead) (a : Assigned) : State :=
  let s1 := (s.noteLate e.stream a.release).noteSequence e.stream e.path a.matched
  let s2 := (s1.updEntry e.ticket fun x => { x with assigned := some a, phase := .waiting }).refreshHeads
    e.stream
  let s3 := if a.release ≤ s2.time.now then s2.makeEligible e.ticket else s2
  s3.haltCheck e.stream e.path

/-- R71: the sequence check: the slot and segment the read's address names against the position's. -/
def sequenceMatch (e : HeldRead) (line seg ring : Nat) : Bool := e.readSlot == line % ring && e.readSeg == seg

/-- R29, R30, R35, R71: what a read is given with a position. -/
def State.assignedOf (s : State) (e : HeldRead) (np : NextPos) : Assigned :=
  let st := s.stream e.stream
  let line := st.lineAt np.frame.frame np.n
  let seg := np.n % st.active.segsPerLine
  let launch := st.launchTime e.path np
  { frame := np.frame.frame, n := np.n, line := line, seg := seg, launch := launch
    release := releaseTime launch (s.paths.get e.path).lead
    matched := sequenceMatch e line seg st.ring }

/-- R38, steps 4 to 7: the judgement of a read whose position is taken: drop mode, the q_head test, the slip
test, and otherwise on time or late. `drop` is the stream-path's drop mode. -/
def State.judge (s : State) (e : HeldRead) (a : Assigned) (drop : Option Nat) : State :=
  let st := s.stream e.stream
  if drop = some a.frame then s.dropRead e
  else if a.line < st.qHead.getD 0 then s.dropRead e
  else if a.release + st.active.lateLimit < s.time.now then
    ((s.setDrop e.stream e.path (some a.frame)).latch e.stream .slip).dropRead e
  else s.placeRead e a

/-- R36: drop mode is cleared when the last position of a frame has been assigned. -/
def State.endFrame (s : State) (e : HeldRead) (n : Nat) : State :=
  if n + 1 = (s.stream e.stream).active.positions then s.setDrop e.stream e.path none else s

/-- R38: the assignment of a held read: the surplus test, the advance, the taking of a pending-apply record, the
judgement; then drop mode ends with its frame and the offset schedule loses an entry no position needs. Where
the judgement drops the read and completes the drain, the stream is IDLE by then, and its offset schedule stays as
it is (DESIGN CHOICE, notes/assumptions/27.md). A read whose accumulator has no next position stays as it is. -/
def State.assign (s : State) (e : HeldRead) : State :=
  match (s.stream e.stream).acc.get e.path with
  | none => s
  | some acc =>
    match acc.next with
    | none => s
    | some np =>
      let beyond := match (s.stream e.stream).fStop with
        | none => false
        | some fs => decide (fs < np.frame.frame)
      if (s.stream e.stream).state = .draining && beyond then s.surplus e
      else
        let s1 := (s.advance e.stream e.path np).takeApply e.stream np.frame.frame
        let s2 := (s1.judge e (s1.assignedOf e np) acc.drop).endFrame e np.n
        s2.updStream e.stream Stream.trimOffsets

/-- R26: the UNASSIGNED reads of a stream on a path in arrival order. -/
def State.unassigned (s : State) (i : StreamId) (p : Path) : List HeldRead :=
  s.gate.held.filter fun e => e.stream = i && e.path = p && e.phase == .unassigned

/-- R26, R72: a read held through ALIGNING is assigned, unless the stream has halted meanwhile. -/
def State.assignHeld (s : State) (e : HeldRead) : State :=
  if (s.stream e.stream).state = .armed then s.assign e else s

/-- R69: the arrival of a gated read, by the state of its stream. -/
def State.arrive (s : State) (i : StreamId) (p : Path) (tag : Tag) (addr : Addr) (len slot seg : Nat) : State :=
  let e : HeldRead :=
    { ticket := s.gate.nextTicket, stream := i, path := p, tag := tag, addr := addr, len := len
      readSlot := slot, readSeg := seg, assigned := none, phase := .unassigned, outcome := none
      snapshot := none, pastRun := false, permit := none, deferred := false, answer := .undecided }
  let s1 := s.withGate
    { s.gate with held := s.gate.held ++ [e], nextTicket := s.gate.nextTicket + 1 }
  match (s.stream i).state with
  | .aligning | .idle => s1
  | .armed | .running | .draining => s1.assign e
  | .halted => s1.answerError e.ticket

/-! ### Events of held entries -/

/-- R73, R100: a WAITING entry whose release time has come becomes ELIGIBLE, with every other of its path that is
due, and its path may grant. -/
def State.releaseReached (s : State) (t : Nat) : State :=
  match s.entry t with
  | none => s
  | some e => if s.releaseDue e then s.arbitrate e.path else s

/-- R95, R100: an ELIGIBLE entry's permit time has come, and its path may grant. -/
def State.permitReached (s : State) (t : Nat) : State :=
  match s.entry t with
  | none => s
  | some e => if e.phase == .eligible then s.arbitrate e.path else s

/-- R73: the command RELEASE_TIME_REACHED. -/
def execReleaseTimeReached (t : Nat) (s : State) : Host.Outcome State Fault Refusal :=
  .next (event (fun s => s.releaseReached t) s)

/-- R95: the command PERMIT_TIME_REACHED. -/
def execPermitTimeReached (t : Nat) (s : State) : Host.Outcome State Fault Refusal :=
  .next (event (fun s => s.permitReached t) s)

/-- R91: the command PATH_FREE. -/
def execPathFree (p : Path) (s : State) : Host.Outcome State Fault Refusal :=
  .next (event (fun s => s.arbitrate p) s)

/-! ### The end of an answer -/

/-- R68: a table that holds fewer than 48 entries ends a stall episode. -/
def Gate.endStall (g : Gate) : Gate := if g.held.length < 48 then { g with stalled := false } else g

/-- R65, R67, R68: the answer of a FORWARDED entry has been returned in full on the send port, and the entry
leaves the table. -/
def State.completeAnswer (s : State) (t : Nat) : State :=
  match s.entry t with
  | none => s
  | some e =>
    match e.phase, e.answer with
    | .forwarded, .returning r =>
      (s.withGate
        (Gate.endStall { s.gate with held := s.gate.held.filter fun x => x.ticket ≠ t })).withPorts
        { s.ports with
          sendOut := some ⟨{ tag := e.tag, addr := e.addr, acc := .read e.len }, r⟩ }
    | _, _ => s

/-- R65: the command ANSWER_COMPLETE. -/
def execAnswerComplete (t : Nat) (s : State) : Host.Outcome State Fault Refusal :=
  .next (event (fun s => s.completeAnswer t) s)

/-- R68: a request presented while the table holds 48 entries begins a stall episode, latched and counted once. -/
def State.beginStall (s : State) : State :=
  if 48 ≤ s.gate.held.length && !s.gate.stalled then
    ((s.withGate { s.gate with stalled := true }).latchDevice .stall).countDevice .stallEpisodes
  else s

/-- R68: the command STALL. -/
def execStall (s : State) : Host.Outcome State Fault Refusal := .next (event State.beginStall s)

end Sys2Proof.Machine
end

