-- ==== Sys2Proof/Machine/StreamControl.lean ====
section
/-! DEFINITION. The Stream Controller (Section 1): the checks and the effects of ARM, the completion of ALIGN, frame
starts, STOP, ABORT, APPLY, and the drain timeout. -/
namespace Sys2Proof.Machine

open Sys2Proof

/-! ### ARM (1.7) -/

/-- R11, R143: how many requester tags are mapped to a stream and path. -/
def State.tagCount (s : State) (i : StreamId) (p : Path) : Nat :=
  s.tags.toList.countP fun t => t == some (i, p)

/-- R11: whether a range of addresses overlaps the window of a stream other than `i` that is not IDLE, the
window being computed from that stream's active copy and its R. -/
def State.overlapsOther (s : State) (i : StreamId) (base len : Nat) : Bool :=
  (List.finRange 24).any fun j =>
    j != i && (s.stream j).state != .idle &&
      overlaps base len (s.stream j).active.windowBase
        ((s.stream j).ring * (s.stream j).active.lineStride)

/-- R10, check 7: whether the window of the staged record is refused. -/
def State.windowRefused (s : State) (i : StreamId) (p : Params) (ring : Nat) : Bool :=
  let len := ring * p.lineStride
  decide (2 ^ 40 < p.windowBase + len) || overlaps p.windowBase len s.controlBase controlSize ||
    s.overlapsOther i p.windowBase len

/-- R10, check 8: whether a path of the staged set is disabled or has not exactly one tag. -/
def State.pathRefused (s : State) (i : StreamId) (p : Params) : Bool :=
  p.pathSet.paths.any fun q => !(s.paths.get q).enable || decide (s.tagCount i q ≠ 1)

/-- R10: the checks of an ARM, in their order; the first that fails gives the result. -/
def State.armCheck (s : State) (i : StreamId) : ResultCode :=
  let p := (s.stream i).staged
  let ring := ringDepth s.carve i p.segsPerLine
  if (s.stream i).state ≠ .idle then .state
  else if p.num < 1000 * p.den then .period
  else if p.totalLines < p.activeLines then .lines
  else if p.segStride < p.segLen ∨ p.lineStride < p.segsPerLine * p.segStride then .stride
  else if ring < 2 then .ring
  else if p.gapG / p.gapD < 64 then .gap
  else if s.windowRefused i p ring then .window
  else if s.pathRefused i p then .path
  else .done

/-- R32: the accumulator that an accepted ARM creates, its next position marked "first". -/
def freshAccumulator : Accumulator := { next := none, drop := none, head := 0 }

/-- One value for each path of a set, none for a path outside it. -/
def PathSet.pick {α : Type} (x : PathSet) (v : α) : PathPair (Option α) :=
  ⟨if x.has .A then some v else none, if x.has .B then some v else none⟩

/-- R12: what an accepted ARM sets in the stream's context: steps 1 to 4 and 6 to 10. -/
def Stream.arm (st : Stream) (ring now : Nat) : Stream :=
  { st with
    tArm := now
    active := st.staged
    offsets := [⟨none, st.staged.launchOffset⟩]
    pendingApply := none, first := none, fStop := none, clockNow := none, clockNext := none
    ring := ring
    window := some { base := st.staged.windowBase, len := ring * st.staged.lineStride }
    acc := st.staged.pathSet.pick freshAccumulator
    qHead := some 0
    mismatches := .both 0
    meters := st.staged.pathSet.pick { level := 0, updated := now }
    counters := Vector.replicate 12 0
    margin := {}
    echoStats := .both {} }

/-- R85: the past-run mark set on every entry of a stream in the table. -/
def State.markHeldPast (s : State) (i : StreamId) : State :=
  s.withGate
    { s.gate with
      held := s.gate.held.map fun e => if e.stream = i then { e with pastRun := true } else e }

/-- R12: the effects of an accepted ARM. -/
def State.armStream (s : State) (i : StreamId) : State :=
  let ring := ringDepth s.carve i (s.stream i).staged.segsPerLine
  let s1 := (s.updStream i fun st => st.arm ring s.time.now).setStreamState i .aligning
  ((s1.initRecords i).markHeldPast i).markEchoPast i

/-- R10, R12: the ARM action. -/
def State.actArm (s : State) (i : StreamId) : ResultCode × State :=
  match s.armCheck i with
  | .done => (.done, s.armStream i)
  | r => (r, s)

/-! ### ALIGN completion and frame starts (1.8, 2.1, 2.2) -/

/-- R26: the first frame as ALIGN fixes it at completion: advanced by one frame where its first launch would lie
before the time base. -/
def Stream.firstFrameAt (st : Stream) (now : Nat) : FrameRec :=
  let x := alignFrame st.active st.tArm
  if x.start + offsetFor st.offsets x.frame < now then frameStep st.active x else x

/-- R6, R26: the offset schedule's first entry takes f0 as its first frame. -/
def startOffsets (f : Nat) : List OffsetEntry → List OffsetEntry
  | [] => []
  | e :: rest => { e with firstFrame := some f } :: rest

/-- R26: steps 1 to 3 of ALIGN completion. -/
def Stream.aligned (st : Stream) (x : FrameRec) : Stream :=
  let start := fun (a : Accumulator) => { a with next := some (firstPos x) }
  { st with
    first := some { frame := x.frame, start := x.start }
    clockNext := some x
    acc := ⟨st.acc.a.map start, st.acc.b.map start⟩
    offsets := startOffsets x.frame st.offsets
    pendingApply := st.pendingApply.map fun r =>
      { r with frame := some (r.frame.getD x.frame) } }

/-- R26: the completion of ALIGN: f0 and its records, ARMED, and the UNASSIGNED reads assigned, path A's first;
then the arbiters may grant (R100). -/
def State.completeAlign (s : State) (i : StreamId) : State :=
  if (s.stream i).state = .aligning then
    let x := (s.stream i).firstFrameAt s.time.now
    let s1 := (s.updStream i fun st => st.aligned x).setStreamState i .armed
    let s2 := (s1.unassigned i .A ++ s1.unassigned i .B).foldl State.assignHeld s1
    s2.arbitrateBoth
  else s

/-- R22, R23: the frame clock takes its next frame record and steps it. -/
def Stream.clockStep (st : Stream) (x : FrameRec) : Stream :=
  { st with clockNow := some x, clockNext := some (frameStep st.active x) }

/-- R23: a frame start: the clock steps, the frame is counted and the record queued. -/
def State.startFrame (s : State) (i : StreamId) (x : FrameRec) : State :=
  ((s.updStream i fun st => st.clockStep x).count i .framesStarted).queueRecord (.stream i)

/-- The next frame record, where the time base has reached its start. -/
def State.frameDue (s : State) (i : StreamId) : Option FrameRec :=
  match (s.stream i).clockNext with
  | none => none
  | some x => if x.start ≤ s.time.now then some x else none

/-- R14: the first frame start of an ARMED stream. -/
def State.startFirstFrame (s : State) (i : StreamId) : State :=
  if (s.stream i).state = .armed then
    match s.frameDue i with
    | none => s
    | some x => ((s.setStreamState i .running).latch i .started).startFrame i x
  else s

/-- R23: a frame start of a RUNNING or DRAINING stream. -/
def State.nextFrameStart (s : State) (i : StreamId) : State :=
  if (s.stream i).state = .running ∨ (s.stream i).state = .draining then
    match s.frameDue i with
    | none => s
    | some x => s.startFrame i x
  else s

/-! ### Leaving the air (1.9) -/

/-- R15: STOP of a RUNNING stream: f_stop, DRAINING, and drain completion at once where it holds already. -/
def State.beginDrain (s : State) (i : StreamId) : State :=
  ((s.updStream i fun st => { st with fStop := some st.stopFrame }).setStreamState i .draining).drainCheck i

/-- R15: the STOP action. -/
def State.actStop (s : State) (i : StreamId) : ResultCode × State :=
  match (s.stream i).state with
  | .idle => (.state, s)
  | .aligning | .armed => (.done, (s.failStream i).enterIdle i)
  | .running => (.done, s.beginDrain i)
  | .draining => (.done, s)
  | .halted => (.done, s.enterIdle i)

/-- R18: the ABORT of one stream. -/
def State.abortStream (s : State) (i : StreamId) : State :=
  if (s.stream i).state = .idle then s else (s.failStream i).enterIdle i

/-- R18: the ABORT action. -/
def State.actAbort (s : State) (i : StreamId) : ResultCode × State := (.done, s.abortStream i)

/-- R18: the ABORT_ALL action. -/
def State.actAbortAll (s : State) : ResultCode × State := (.done, s.eachStream fun i s => s.abortStream i)

/-- Whether the time base has reached a draining stream's drain timeout. -/
def State.drainDue (s : State) (i : StreamId) : Bool :=
  match (s.stream i).drainDeadline with
  | none => false
  | some t => decide (t ≤ s.time.now)

/-- R17: the drain timeout. -/
def State.drainTimeout (s : State) (i : StreamId) : State :=
  if (s.stream i).state = .draining && s.drainDue i then
    ((s.failStream i).latch i .drainTimeout).enterIdle i
  else s

/-- R7, R42: the APPLY action. It changes neither the active copy nor a held read. -/
def State.actApply (s : State) (i : StreamId) : ResultCode × State :=
  let st := s.stream i
  if st.state = .idle then (.state, s)
  else if 8 ≤ st.offsets.length then (.busy, s)
  else
    (.done,
      (s.updStream i fun st =>
        { st with pendingApply := some { live := st.staged.live, frame := st.applyFrame } }).queueRecord
          (.stream i))

/-! ### The commands that are events of a stream -/

/-- R26: the command ALIGN_COMPLETION. -/
def execAlignCompletion (i : StreamId) (s : State) : Host.Outcome State Fault Refusal :=
  .next (event (fun s => s.completeAlign i) s)

/-- R14: the command FIRST_FRAME_START. -/
def execFirstFrameStart (i : StreamId) (s : State) : Host.Outcome State Fault Refusal :=
  .next (event (fun s => s.startFirstFrame i) s)

/-- R23: the command FRAME_START. -/
def execFrameStart (i : StreamId) (s : State) : Host.Outcome State Fault Refusal :=
  .next (event (fun s => s.nextFrameStart i) s)

/-- R17: the command DRAIN_TIMEOUT. -/
def execDrainTimeout (i : StreamId) (s : State) : Host.Outcome State Fault Refusal :=
  .next (event (fun s => s.drainTimeout i) s)

end Sys2Proof.Machine
end

