-- ==== Sys2Proof/Machine/Commands.lean ====
section
/-! DEFINITION. The Command Decoder (Section 10): SELECT, DATA and ACTION words, the owners of the fields a DATA word
is directed to, the actions, and the command echo. -/
namespace Sys2Proof.Machine

open Sys2Proof

/-! ### Every command (R150, R156) -/

/-- R156: a result other than DONE latches CMD_REFUSED and is counted. -/
def State.noteRefusal (s : State) (r : ResultCode) : State :=
  if r = .done then s else (s.latchDevice .cmdRefused).countDevice .commandRefusals

/-- R150, R156: the end of a command: its part of the echo record, the command count, the record queued, and a
refusal noted. -/
def State.endCommand (s : State) (r : ResultCode) (f : CommandEcho → CommandEcho) : State :=
  ((s.withDecoder
    { s.decoder with echo := { f s.decoder.echo with count := s.decoder.echo.count + 1 } }).queueRecord
      .echo).noteRefusal r

/-! ### SELECT (R151) -/

/-- R151: the selection that an accepted SELECT word makes, or the code that refuses the word. -/
def decodeSelect (w : BitVec 64) : Except ResultCode Selection :=
  if !selectReservedZero w || decide (6 < wordCode w) then .error .format
  else
    match selectTarget (wordCode w) (wordOperand w) with
    | none => .error .index
    | some t => if wordStart w ≤ lastField t then .ok { target := t, next := wordStart w } else .error .index

/-- R151: a SELECT word is taken. -/
def State.takeSelect (s : State) (w : BitVec 64) : State :=
  match decodeSelect w with
  | .error r => s.endCommand r fun c => { c with selectResult := r }
  | .ok sel =>
    (s.withDecoder { s.decoder with sel := sel }).endCommand .done fun c => { c with selectResult := .done }

/-! ### The owners of the fields (R152, step 2) -/

/-- R2: a value stored in a field of a stream's staged record. -/
def State.ownStream (s : State) (i : StreamId) (field v : Nat) : ResultCode × State :=
  (.done, s.updStream i fun st => { st with staged := st.staged.setField field v })

/-- R47: whether a carve write of base[k] is refused with BUSY. -/
def State.carveBusy (s : State) (k : StreamId) : Bool :=
  (s.stream k).state != .idle ||
    (decide (0 < k.val) && (s.stream ⟨k.val - 1, by omega⟩).state != .idle)

/-- R47: a carve write of base[k]. -/
def State.ownCarve (s : State) (k v : Nat) : ResultCode × State :=
  if h : k < 24 then
    if s.carveBusy ⟨k, h⟩ then (.busy, s)
    else if (0 < k ∧ v < carveBase s.carve (k - 1)) ∨ carveBase s.carve (k + 1) < v then (.order, s)
    else (.done, s.withCarve (s.carve.set k v))
  else (.done, s)

/-- R143: whether a mapping names a stream that is not IDLE. -/
def State.entryBusy (s : State) (e : TagEntry) : Bool :=
  match e with
  | none => false
  | some (i, _) => (s.stream i).state != .idle

/-- R143: a write of a tag's mapping. -/
def State.ownTag (s : State) (t : Tag) (v : Nat) : ResultCode × State :=
  if s.entryBusy s.tags[t.val] || s.entryBusy (tagEntryOf v) then (.busy, s)
  else (.done, s.withTags (s.tags.set t.val (tagEntryOf v)))

/-- R90: whether a stream that is not IDLE has the path in its active copy's path set. -/
def State.pathInUse (s : State) (p : Path) : Bool :=
  (List.finRange 24).any fun i => (s.stream i).state != .idle && (s.stream i).active.pathSet.has p

/-- R90, R100: a write of a path's enable; enabling lets the path's arbiter grant. -/
def State.ownEnable (s : State) (p : Path) (v : Nat) : ResultCode × State :=
  if v = 0 then
    if s.pathInUse p then (.busy, s) else (.done, s.updPath p fun x => { x with enable := false })
  else (.done, (s.updPath p fun x => { x with enable := true }).arbitrate p)

/-- R89, R118: a value stored in one of a path's other fields. -/
def PathState.setField (x : PathState) (field v : Nat) : PathState :=
  match field with
  | 1 => { x with byteTime := v }
  | 2 => { x with overhead := v }
  | 3 => { x with leadAuto := v != 0 }
  | 4 => { x with lead := v }
  | _ => x

/-- R89, R90, R118: a write of a path's field. -/
def State.ownPath (s : State) (p : Path) (field v : Nat) : ResultCode × State :=
  if field = 0 then s.ownEnable p v else (.done, s.updPath p fun x => x.setField field v)

/-- R107, R108: a write of a field of the reference record. -/
def State.ownReference (s : State) (field v : Nat) : ResultCode × State :=
  if field = 0 then (.done, if v = 0 then s.disableRef else s.enableRef)
  else (.done, s.withRefRec (s.refRec.setField field v))

/-- R153: a mask written. -/
def State.ownMasks (s : State) (field v : Nat) : ResultCode × State :=
  if h : field < 24 then (.done, s.updStream ⟨field, h⟩ fun st => { st with mask := BitVec.ofNat 16 v })
  else if field = 24 then (.done, s.withStatus { s.status with mask := BitVec.ofNat 10 v })
  else (.done, s.withStatus { s.status with summaryMask := BitVec.ofNat 25 v })

/-- R152: a clamped value offered to the owner of the field the selection names. -/
def State.offer (s : State) (sel : Selection) (v : Nat) : ResultCode × State :=
  match sel.target with
  | .none => (.noSelection, s)
  | .stream i => s.ownStream i sel.next v
  | .carve => s.ownCarve sel.next v
  | .tag t => s.ownTag t v
  | .path p => s.ownPath p sel.next v
  | .reference => s.ownReference sel.next v
  | .masks => s.ownMasks sel.next v

/-! ### DATA (R152) -/

/-- R152: the selection after a DATA word: the next field advanced, or NONE past the kind's last field. -/
def Selection.advance (x : Selection) : Selection :=
  if x.next < lastField x.target then { x with next := x.next + 1 } else {}

/-- R152: a clamped write is reported. -/
def State.noteClamp (s : State) (clamped : Bool) : State :=
  if clamped then s.latchDevice .fieldClamped else s

/-- R156: the DATA part of the command echo record. -/
def CommandEcho.withData (c : CommandEcho) (sel : Selection) (r : ResultCode) (v : Nat) (clamped : Bool) :
    CommandEcho :=
  { c with
    dataKind := kindCode sel.target, dataIndex := indexCode sel.target, dataField := sel.next
    dataResult := r, dataValue := BitVec.ofNat 64 v, dataClamped := clamped }

/-- R152: a DATA word taken under a selection that is not NONE. -/
def State.takeSelectedData (s : State) (sel : Selection) (v : Nat) : State :=
  let c := clampData s.refRec sel v
  let clamped := decide (c ≠ v)
  let o := (s.noteClamp clamped).offer sel c
  (o.2.withDecoder { o.2.decoder with sel := sel.advance }).endCommand o.1 fun e =>
    e.withData sel o.1 c clamped

/-- R152: a DATA word is taken. -/
def State.takeData (s : State) (w : BitVec 64) : State :=
  let sel := s.decoder.sel
  if sel.target = .none then s.endCommand .noSelection fun e => e.withData sel .noSelection 0 false
  else s.takeSelectedData sel w.toNat

/-! ### ACTION (R154, R155) -/

/-- R155: the CLEAR_COUNTERS action. -/
def State.actClear (s : State) (operand : Nat) : ResultCode × State :=
  if h : operand < 24 then (.done, s.clearStreamCounters ⟨operand, h⟩)
  else if operand = 24 then (.done, s.clearDeviceCounters)
  else if operand = 25 then
    (.done, (s.eachStream fun i s => s.clearStreamCounters i).clearDeviceCounters)
  else (.index, s)

/-- R155: the POST_DEVICE action. -/
def State.actPostDevice (s : State) : ResultCode × State := (.done, s.queueRecord .device)

/-- R154: an action on the stream its operand names, refused with INDEX where it names none. -/
def State.onStream (s : State) (operand : Nat) (f : State → StreamId → ResultCode × State) :
    ResultCode × State :=
  if h : operand < 24 then f s ⟨operand, h⟩ else (.index, s)

/-- R154: an action whose one operand is 0, refused with INDEX for another. -/
def State.onZero (s : State) (operand : Nat) (f : State → ResultCode × State) : ResultCode × State :=
  if operand = 0 then f s else (.index, s)

/-- R154, Table 10-3: the action of a code and an operand; the code is unknown where it is 0 or above 8. -/
def State.act (s : State) (code operand : Nat) : ResultCode × State :=
  match code with
  | 1 => s.onStream operand State.actArm
  | 2 => s.onStream operand State.actStop
  | 3 => s.onStream operand State.actAbort
  | 4 => s.onStream operand State.actApply
  | 5 => s.actClear operand
  | 6 => s.onZero operand State.actAbortAll
  | 7 => s.onZero operand State.actLoadEpoch
  | 8 => s.onZero operand State.actPostDevice
  | _ => (.format, s)

/-- R156: the ACTION part of the command echo record. -/
def CommandEcho.withAction (c : CommandEcho) (code operand : BitVec 8) (r : ResultCode) : CommandEcho :=
  { c with actionCode := code, actionOperand := operand, actionResult := r }

/-- R154: an ACTION word is taken. -/
def State.takeAction (s : State) (w : BitVec 64) : State :=
  let o := if actionReservedZero w then s.act (wordCode w) (wordOperand w) else (.format, s)
  o.2.endCommand o.1 fun e =>
    e.withAction (BitVec.ofNat 8 (wordCode w)) (BitVec.ofNat 8 (wordOperand w)) o.1

/-! ### A word covered only in part (R141, R156) -/

/-- R141, R156: a command word covered only in part is refused with FORMAT. Of a partial ACTION word the record's
code and operand are free values (notes/assumptions/7.md). -/
def State.takePartial (s : State) (w : CommandWord) : State :=
  match w with
  | .select => s.endCommand .format fun e => { e with selectResult := .format }
  | .data => s.endCommand .format fun e => e.withData s.decoder.sel .format 0 false
  | .action =>
    (s.drawFree.drawFree).endCommand .format fun e =>
      e.withAction (Config.partialActionByte s.freeIndex) (Config.partialActionByte (s.freeIndex + 1)) .format

/-! ### The commands -/

/-- R151: the command SELECT. -/
def execSelect (w : BitVec 64) (s : State) : Host.Outcome State Fault Refusal :=
  .next (event (fun s => s.takeSelect w) s)

/-- R152: the command DATA_NO_SELECTION. The selection decides what a DATA word does, for this and every other
row of a DATA word (notes/assumptions/2.md). -/
def execDataNoSelection (v : BitVec 64) (s : State) : Host.Outcome State Fault Refusal :=
  .next (event (fun s => s.takeData v) s)

/-- R2: the command STREAM_FIELD_WRITE. -/
def execStreamFieldWrite (v : BitVec 64) (s : State) : Host.Outcome State Fault Refusal :=
  .next (event (fun s => s.takeData v) s)

/-- R47: the command CARVE_WRITE. -/
def execCarveWrite (v : BitVec 64) (s : State) : Host.Outcome State Fault Refusal :=
  .next (event (fun s => s.takeData v) s)

/-- R143: the command TAG_WRITE. -/
def execTagWrite (v : BitVec 64) (s : State) : Host.Outcome State Fault Refusal :=
  .next (event (fun s => s.takeData v) s)

/-- R90: the command PATH_ENABLE_WRITE. -/
def execPathEnableWrite (v : BitVec 64) (s : State) : Host.Outcome State Fault Refusal :=
  .next (event (fun s => s.takeData v) s)

/-- R89: the command PATH_FIELD_WRITE. -/
def execPathFieldWrite (v : BitVec 64) (s : State) : Host.Outcome State Fault Refusal :=
  .next (event (fun s => s.takeData v) s)

/-- R118: the command LEAD_WRITE. -/
def execLeadWrite (v : BitVec 64) (s : State) : Host.Outcome State Fault Refusal :=
  .next (event (fun s => s.takeData v) s)

/-- R107: the command REFERENCE_FIELD_WRITE. -/
def execReferenceFieldWrite (v : BitVec 64) (s : State) : Host.Outcome State Fault Refusal :=
  .next (event (fun s => s.takeData v) s)

/-- R108: the command REFERENCE_ENABLE_WRITE. -/
def execReferenceEnableWrite (v : BitVec 64) (s : State) : Host.Outcome State Fault Refusal :=
  .next (event (fun s => s.takeData v) s)

/-- R153: the command MASKS_WRITE. -/
def execMasksWrite (v : BitVec 64) (s : State) : Host.Outcome State Fault Refusal :=
  .next (event (fun s => s.takeData v) s)

/-- R10: the command ARM, the ACTION word of code 1. -/
def execArm (o : BitVec 8) (s : State) : Host.Outcome State Fault Refusal :=
  .next (event (fun s => s.takeAction (actionWord 1 o)) s)

/-- R15: the command STOP, the ACTION word of code 2. -/
def execStop (o : BitVec 8) (s : State) : Host.Outcome State Fault Refusal :=
  .next (event (fun s => s.takeAction (actionWord 2 o)) s)

/-- R18: the command ABORT, the ACTION word of code 3. -/
def execAbort (o : BitVec 8) (s : State) : Host.Outcome State Fault Refusal :=
  .next (event (fun s => s.takeAction (actionWord 3 o)) s)

/-- R18: the command ABORT_ALL, the ACTION word of code 6. -/
def execAbortAll (o : BitVec 8) (s : State) : Host.Outcome State Fault Refusal :=
  .next (event (fun s => s.takeAction (actionWord 6 o)) s)

/-- R7: the command APPLY, the ACTION word of code 4. -/
def execApply (o : BitVec 8) (s : State) : Host.Outcome State Fault Refusal :=
  .next (event (fun s => s.takeAction (actionWord 4 o)) s)

/-- R155: the command CLEAR_COUNTERS, the ACTION word of code 5. -/
def execClearCounters (o : BitVec 8) (s : State) : Host.Outcome State Fault Refusal :=
  .next (event (fun s => s.takeAction (actionWord 5 o)) s)

/-- R108: the command LOAD_EPOCH, the ACTION word of code 7. -/
def execLoadEpoch (o : BitVec 8) (s : State) : Host.Outcome State Fault Refusal :=
  .next (event (fun s => s.takeAction (actionWord 7 o)) s)

/-- R155: the command POST_DEVICE, the ACTION word of code 8. -/
def execPostDevice (o : BitVec 8) (s : State) : Host.Outcome State Fault Refusal :=
  .next (event (fun s => s.takeAction (actionWord 8 o)) s)

/-- R154: the command UNKNOWN_ACTION_CODE: an ACTION word taken as R154 says of its code and reserved field. -/
def execUnknownActionCode (w : BitVec 64) (s : State) : Host.Outcome State Fault Refusal :=
  .next (event (fun s => s.takeAction w) s)

/-- R141: the command PARTIAL_COMMAND_WORD. -/
def execPartialCommandWord (w : CommandWord) (s : State) : Host.Outcome State Fault Refusal :=
  .next (event (fun s => s.takePartial w) s)

end Sys2Proof.Machine
end

