-- ==== Sys2Proof/Machine/AccessPath.lean ====
section
/-! DEFINITION. The access path (Section 9): the classification of fill-port and send-port requests, the answers of
memory, and the reset line. -/
namespace Sys2Proof.Machine

open Sys2Proof

/-! ### The fill port (9.3) -/

/-- The three command words in increasing address order (R138). -/
def commandWords : List CommandWord := [.select, .data, .action]

/-- The address of a command word. -/
def State.commandAddr (s : State) (w : CommandWord) : Nat := s.controlBase + commandOffset w

/-- R140: whether a request touches a command word. -/
def State.touchesCommand (s : State) (addr len : Nat) : Bool :=
  commandWords.any fun w => overlaps addr len (s.commandAddr w) 8

/-- R141: the value that a write carries for a command word it covers whole, its 8 bytes read least significant
first (DEDUCED from R157, notes/assumptions/26.md: the manual states no byte order for what software writes). -/
def State.carriedWord (s : State) (w : CommandWord) (addr : Nat) (data : List Byte) : BitVec 64 :=
  BitVec.ofNat 64 (leValue (responseSlice data (s.commandAddr w - addr) 8))

/-- A whole command word is taken (R151, R152, R154). -/
def State.takeWord (s : State) (w : CommandWord) (v : BitVec 64) : State :=
  match w with
  | .select => s.takeSelect v
  | .data => s.takeData v
  | .action => s.takeAction v

/-- R141: one command word of a write: acted on where the write covers it whole, refused where it covers it in
part, and not taken where it does not touch it. Each is an event of its own. -/
def State.takeCommand (s : State) (addr : Nat) (data : List Byte) (w : CommandWord) : State :=
  if covers addr data.length (s.commandAddr w) 8 then
    event (fun s => s.takeWord w (s.carriedWord w addr data)) s
  else if overlaps addr data.length (s.commandAddr w) 8 then event (fun s => s.takePartial w) s
  else s

/-- R140: the class of a fill-port request. -/
def State.fillClass (s : State) (addr : Nat) (acc : Access) : FillClass :=
  match acc with
  | .write data =>
    if s.touchesCommand addr data.length then .command
    else if s.hasPayload addr data then .accounted
    else .pass
  | .read len => if (s.coveredEventWords addr len).isEmpty then .pass else .readToClear

/-- R140: the action that a request's class calls for before it is forwarded. -/
def State.fillAction (s : State) (addr : Nat) (acc : Access) : FillClass → State
  | .command =>
    match acc with
    | .write data => commandWords.foldl (fun s w => s.takeCommand addr data w) s
    | .read _ => s
  | .accounted =>
    match acc with
    | .write data => event (fun s => s.accountAll addr data) s
    | .read _ => s
  | .readToClear | .pass => s

/-- R140: a request accepted on the fill port: its class's action, then its place in the fill forwarder. -/
def State.takeFill (s : State) (addr : Addr) (acc : Access) : State :=
  let cls := s.fillClass addr.toNat acc
  let s1 := s.fillAction addr.toNat acc cls
  s1.withPorts { s1.ports with fillForwarder := s1.ports.fillForwarder ++ [⟨addr, acc, cls⟩] }

/-- R140, R146, R149: the command FILL_REQUEST. The fill port accepts a request while the reset line is not
asserted and the fill forwarder holds fewer than 64; a request it does not accept has no effect and stays
with its sender (notes/assumptions/5.md). -/
def execFillRequest (addr : Addr) (acc : Access) (s : State) : Host.Outcome State Fault Refusal :=
  .next (if s.inReset || decide (64 ≤ s.ports.fillForwarder.length) then s else s.takeFill addr acc)

/-! ### The send port (9.4) -/

/-- R144: the stream and path of an own-mapped tag. -/
def State.ownMapped (s : State) (tag : Tag) : Option (StreamId × Path) :=
  match s.tags[tag.val] with
  | none => none
  | some (i, p) =>
    if (s.stream i).state != .idle && (s.stream i).active.pathSet.has p then some (i, p) else none

/-- R144: where a read of an own-mapped tag starts a segment of its stream's window: the stream, the path, the
slot and the segment. -/
def State.gatedAt (s : State) (tag : Tag) (addr : Nat) : Option (StreamId × Path × Nat × Nat) :=
  match s.ownMapped tag with
  | none => none
  | some (i, p) =>
    match (s.stream i).segmentStart addr with
    | none => none
    | some (j, k) => some (i, p, j, k)

/-- R144: whether a request touches an active window of any stream. -/
def State.touchesAnyActive (s : State) (addr len : Nat) : Bool :=
  (List.finRange 24).any fun i => (s.stream i).touchesActive addr len

/-- The classes of a send-port request (R144). -/
inductive SendClass where
  | gated (i : StreamId) (p : Path) (slot seg : Nat)
  | stray (i : StreamId)
  | pass
  deriving DecidableEq, Repr

/-- R144: the class of a send-port request. -/
def State.sendClass (s : State) (tag : Tag) (addr : Nat) (acc : Access) : SendClass :=
  match acc with
  | .write _ => .pass
  | .read len =>
    match s.gatedAt tag addr with
    | some (i, p, j, k) => .gated i p j k
    | none =>
      match s.tags[tag.val] with
      | none => .pass
      | some (i, _) => if s.touchesAnyActive addr len then .stray i else .pass

/-- R145: a stray read is latched and counted. -/
def State.noteStray (s : State) (i : StreamId) : State := (s.latch i .stray).count i .stray

/-- R144: a request accepted on the send port. The grants that a gated read's event makes possible, those that a
raised depth frees among them (R97, R100), are taken after the read's whole assignment: its judgement, its
placing and any halt (DESIGN CHOICE, notes/assumptions/25.md). -/
def State.takeSend (s : State) (tag : Tag) (addr : Addr) (acc : Access) : State :=
  match s.sendClass tag addr.toNat acc with
  | .gated i p j k => (s.arrive i p tag addr acc.len j k).arbitrateBoth
  | .stray i => (s.noteStray i).sendReady (.pass { tag := tag, addr := addr, acc := acc })
  | .pass => s.sendReady (.pass { tag := tag, addr := addr, acc := acc })

/-- R68, R146: whether the send port accepts a request: the held-read table holds fewer than 48 entries, and the
send forwarder fewer than 64 pass requests. -/
def State.sendAccepts (s : State) : Bool :=
  decide (s.gate.held.length < 48) && decide (s.ports.passCount < 64)

/-- R68, R144: a request presented on the send port: accepted, or waiting there, where it begins a stall episode
if it waits because the table is full. -/
def State.presentSend (s : State) (tag : Tag) (addr : Addr) (acc : Access) : State :=
  if s.sendAccepts then s.takeSend tag addr acc else s.beginStall

/-- R144: the command SEND_REQUEST. A request that the port does not accept stays with its sender
(notes/assumptions/5.md). -/
def execSendRequest (tag : Tag) (addr : Addr) (acc : Access) (s : State) :
    Host.Outcome State Fault Refusal :=
  .next (event (fun s => s.presentSend tag addr acc) s)

/-! ### Answers of memory (R142, R148, R79) -/

/-- R80: whether memory's data for a NORMAL read of a length differs in its sum from the snapshot; no comparison
is made for a read shorter than L. -/
def checkFails (segLen len : Nat) (data : List Byte) (snapshot : BitVec 32) : Bool :=
  decide (segLen ≤ len) && byteSum (data.take (min len segLen)) != snapshot

/-- R80, R81: whether a returned answer raises CHECK for an entry. -/
def State.raisesCheck (s : State) (e : HeldRead) (r : Response) : Bool :=
  match r, e.outcome, e.snapshot with
  | .data d, some .normal, some snap =>
    !e.pastRun && checkFails (s.stream e.stream).active.segLen e.len d snap
  | _, _, _ => false

/-- R79: memory's answer to a released read: the read sum of a NORMAL read, and the answer handed to the send
port unchanged. -/
def State.returnReleased (s : State) (t : Nat) (r : Response) : State :=
  match s.entry t with
  | none => s
  | some e =>
    let s1 := s.updEntry t fun x => { x with answer := .returning r }
    if s.raisesCheck e r then (s1.latch e.stream .check).count e.stream .check else s1

/-- R148: an answer to a fill-port request: a read-to-clear read's data is handed to the Status Writer first
(R142); the answer is returned on the fill port unchanged. -/
def State.returnFill (s : State) (x : FillItem) (r : Response) : State :=
  let s1 :=
    match x.cls, r with
    | .readToClear, .data d => s.handEventWords x.addr.toNat x.acc.len d
    | _, _ => s
  s1.withPorts { s1.ports with fillOut := some ⟨x, r⟩ }

/-- R148: memory answers the `n`-th of the requests it has not answered, oldest first: the answer goes to the
request that made it. An answer for which there is no request, its request having been abandoned, is
discarded (R149). -/
def State.memoryReturn (s : State) (n : Nat) (r : Response) : State :=
  match s.ports.atMemory[n]? with
  | none => s
  | some x =>
    let s1 := s.withPorts { s.ports with atMemory := s.ports.atMemory.eraseIdx n }
    match x with
    | .fill f => s1.returnFill f r
    | .send q => s1.withPorts { s1.ports with sendOut := some ⟨q, r⟩ }
    | .released q => s1.returnReleased q.ticket r
    | .posting _ => s1

/-- R148: the command MEMORY_ANSWER. The request decides what its answer does, for this and the two other rows of
an answer (notes/assumptions/2.md). -/
def execMemoryAnswer (n : Nat) (r : Response) (s : State) : Host.Outcome State Fault Refusal :=
  .next (event (fun s => s.memoryReturn n r) s)

/-- R79: the command RELEASED_READ_RETURN. -/
def execReleasedReadReturn (n : Nat) (r : Response) (s : State) : Host.Outcome State Fault Refusal :=
  .next (event (fun s => s.memoryReturn n r) s)

/-- R164: the command READ_TO_CLEAR. -/
def execReadToClear (n : Nat) (r : Response) (s : State) : Host.Outcome State Fault Refusal :=
  .next (event (fun s => s.memoryReturn n r) s)

/-! ### The reset line (R87, R149) -/

/-- R149: the command RESET_ASSERT: every request the part holds is abandoned with its answer unreturned. -/
def execResetAssert (s : State) : Host.Outcome State Fault Refusal :=
  .next
    ((({ s with inReset := true }).withGate { s.gate with held := [], stalled := false }).withPorts
      { s.ports with
        fillForwarder := [], sendReady := [], sendBlocked := [], statusSource := none, atMemory := [] })

/-- R149: the command RESET_RELEASE: the straps are sampled and every block takes its reset state. What is the
model's own, outside the part, stays: the commands that wait, the tickets and the free values drawn. -/
def execResetRelease (straps : BitVec 24) (s : State) : Host.Outcome State Fault Refusal :=
  .next
    { State.reset with
      pending := s.pending, straps := straps, gate := { nextTicket := s.gate.nextTicket }
      freeIndex := s.freeIndex }

end Sys2Proof.Machine
end

