-- ==== Sys2Proof/Machine/Clock.lean ====
section
/-! DEFINITION. What an idle block does: its clock ticks. One nanosecond of oscillator time passes, the time base
advances (R105), and the events that the new instant makes due join the command queue in the order written
here (DESIGN CHOICE, notes/assumptions/1.md: the table has no row for a tick, and where events fall together
the manual takes either first). -/
namespace Sys2Proof.Machine

open Sys2Proof

/-- A list of one command where a condition holds. -/
def whenDue (b : Bool) (c : Instr) : List Instr := if b then [c] else []

/-- Whether the advance from one instant to another reaches a time (R105). -/
def reaches (before after t : Nat) : Bool := decide (before < t) && decide (t ≤ after)

/-- R25: the last instant at which ALIGN can complete has come. -/
def State.alignDue (s : State) (i : StreamId) : Bool :=
  (s.stream i).state == .aligning && decide ((s.stream i).tArm + 2000 ≤ s.time.now)

/-- The events of one stream that are due: ALIGN completion, a frame start, the drain timeout. -/
def State.streamDue (s : State) (i : StreamId) : List Instr :=
  let st := s.stream i
  whenDue (s.alignDue i) (.alignCompletion i) ++
    whenDue (st.state == .armed && (s.frameDue i).isSome) (.firstFrameStart i) ++
    whenDue ((st.state == .running || st.state == .draining) && (s.frameDue i).isSome) (.frameStart i) ++
    whenDue (st.state == .draining && s.drainDue i) (.drainTimeout i)

/-- The events of one held entry that are due: its release time, or the permit time that this tick reached. -/
def State.entryDue (s : State) (before : Nat) (e : HeldRead) : List Instr :=
  whenDue (s.releaseDue e) (.releaseTimeReached e.ticket) ++
    whenDue
      (e.phase == .eligible &&
        match e.permit with
        | none => false
        | some t => reaches before s.time.now t)
      (.permitTimeReached e.ticket)

/-- The event of one path: this tick reached its busy-until. -/
def State.pathDue (s : State) (before : Nat) (p : Path) : List Instr :=
  whenDue (reaches before s.time.now (s.paths.get p).busyUntil) (.pathFree p)

/-- R162: whether the Status Writer can take a record. -/
def State.postingDue (s : State) : Bool := s.ports.statusSource.isNone && !s.status.updates.isEmpty

/-- The events that are due at an instant, `before` being the time base before the tick. A time that had already
passed when its state was entered between two ticks (a STOP into DRAINING after the drain timeout) is due at
the next tick (DESIGN CHOICE, notes/assumptions/1.md). -/
def State.dueEvents (s : State) (before : Nat) : List Instr :=
  whenDue s.pulseDue .pulseTimeout ++ ((List.finRange 24).map s.streamDue).flatten ++
    (s.gate.held.map (s.entryDue before)).flatten ++ s.pathDue before .A ++ s.pathDue before .B ++
    whenDue s.postingDue .statusPosting

/-- One tick of an idle block. Nothing ticks while the reset line is asserted. -/
def State.tick (s : State) : State :=
  if s.inReset then s
  else
    let s1 := s.withTime (s.time.advance s.lock.rate)
    s1.withPending (s1.pending ++ s1.dueEvents s.time.now)

end Sys2Proof.Machine
end

