-- ==== Sys2Proof/Machine/Dispatch.lean ====
section
/-! DEFINITION. The dispatch of a command to its meaning, one arm for each constructor. -/
namespace Sys2Proof.Machine
open Sys2Proof

def exec (i : Instr) (s : State) : Host.Outcome State Fault Refusal :=
  match i with
  | .resetAssert => Sys2Proof.Machine.execResetAssert s
  | .resetRelease straps => Sys2Proof.Machine.execResetRelease straps s
  | .fillRequest addr acc => Sys2Proof.Machine.execFillRequest addr acc s
  | .partialCommandWord word => Sys2Proof.Machine.execPartialCommandWord word s
  | .select word => Sys2Proof.Machine.execSelect word s
  | .dataNoSelection value => Sys2Proof.Machine.execDataNoSelection value s
  | .streamFieldWrite value => Sys2Proof.Machine.execStreamFieldWrite value s
  | .carveWrite value => Sys2Proof.Machine.execCarveWrite value s
  | .tagWrite value => Sys2Proof.Machine.execTagWrite value s
  | .pathEnableWrite value => Sys2Proof.Machine.execPathEnableWrite value s
  | .pathFieldWrite value => Sys2Proof.Machine.execPathFieldWrite value s
  | .leadWrite value => Sys2Proof.Machine.execLeadWrite value s
  | .referenceFieldWrite value => Sys2Proof.Machine.execReferenceFieldWrite value s
  | .referenceEnableWrite value => Sys2Proof.Machine.execReferenceEnableWrite value s
  | .masksWrite value => Sys2Proof.Machine.execMasksWrite value s
  | .arm operand => Sys2Proof.Machine.execArm operand s
  | .stop operand => Sys2Proof.Machine.execStop operand s
  | .abort operand => Sys2Proof.Machine.execAbort operand s
  | .abortAll operand => Sys2Proof.Machine.execAbortAll operand s
  | .apply operand => Sys2Proof.Machine.execApply operand s
  | .clearCounters operand => Sys2Proof.Machine.execClearCounters operand s
  | .loadEpoch operand => Sys2Proof.Machine.execLoadEpoch operand s
  | .postDevice operand => Sys2Proof.Machine.execPostDevice operand s
  | .alignCompletion stream => Sys2Proof.Machine.execAlignCompletion stream s
  | .firstFrameStart stream => Sys2Proof.Machine.execFirstFrameStart stream s
  | .frameStart stream => Sys2Proof.Machine.execFrameStart stream s
  | .drainTimeout stream => Sys2Proof.Machine.execDrainTimeout stream s
  | .sendRequest tag addr acc => Sys2Proof.Machine.execSendRequest tag addr acc s
  | .stall => Sys2Proof.Machine.execStall s
  | .releaseTimeReached ticket => Sys2Proof.Machine.execReleaseTimeReached ticket s
  | .permitTimeReached ticket => Sys2Proof.Machine.execPermitTimeReached ticket s
  | .pathFree path => Sys2Proof.Machine.execPathFree path s
  | .releasedReadReturn place answer => Sys2Proof.Machine.execReleasedReadReturn place answer s
  | .answerComplete ticket => Sys2Proof.Machine.execAnswerComplete ticket s
  | .memoryPortGrant => Sys2Proof.Machine.execMemoryPortGrant s
  | .memoryAnswer place answer => Sys2Proof.Machine.execMemoryAnswer place answer s
  | .readToClear place answer => Sys2Proof.Machine.execReadToClear place answer s
  | .statusPosting => Sys2Proof.Machine.execStatusPosting s
  | .refPulse => Sys2Proof.Machine.execRefPulse s
  | .pulseTimeout => Sys2Proof.Machine.execPulseTimeout s
  | .echoStrobe path tag => Sys2Proof.Machine.execEchoStrobe path tag s
  | .unknownActionCode word => Sys2Proof.Machine.execUnknownActionCode word s

end Sys2Proof.Machine
end

