-- ==== Sys2Proof/Safety.lean ====
section
/-! DEFINITION. The terms the statements use: how one event leaves the Status Writer, what a command word leaves in the
command echo record, the tables of the manual that the statements hold the model against, and the
properties of a state that every step keeps. -/
namespace Sys2Proof.Machine

open Sys2Proof

/-! ### The end of an event -/

/-- R165: a stream's summary bit: one of its latched flags is in its mask. -/
abbrev StreamShown (s : State) (i : StreamId) : Prop := (s.stream i).events &&& (s.stream i).mask ≠ 0#16

/-- R165: the device bit: one of the latched device flags is in the device mask. -/
abbrev DeviceShown (s : State) : Prop := s.status.events &&& s.status.mask ≠ 0#10

/-- R165: the attention line is to be asserted: some stream's summary bit is set and enabled by the summary mask, or
the device bit is set and enabled by its bit 24. -/
abbrev AttentionCalled (s : State) : Prop :=
  (∃ i : StreamId, StreamShown s i ∧ s.status.summaryMask.getLsbD i.val = true) ∨
    (DeviceShown s ∧ s.status.summaryMask.getLsbD 24 = true)

/-- R165: a summary bit or the attention state differs between two states. -/
abbrev SummaryChanged (s t : State) : Prop :=
  (∃ i : StreamId, ¬(StreamShown s i ↔ StreamShown t i)) ∨ ¬(DeviceShown s ↔ DeviceShown t) ∨
    s.status.attn ≠ t.status.attn

/-- R160: the order in which the records queued by one event join the pending update set. -/
abbrev recordOrder : List RecordId := .device :: .echo :: (List.finRange 24).map RecordId.stream ++ [.summary]

/-- R160, R165: `t` follows `s` by one event that queues the records of `queued`. The attention line has the
level the sets and masks call for; the records queued, and the summary record where its content changed,
stand behind those that were pending, each once, in the order of R160; what was pending keeps its place. -/
def ClosesWith (s t : State) (queued : List RecordId) : Prop :=
  (t.status.attn = true ↔ AttentionCalled t) ∧
    t.status.updates = s.status.updates ++ recordOrder.filter fun r =>
      decide ((r ∈ queued ∨ r = .summary ∧ SummaryChanged s t) ∧ r ∉ s.status.updates)

/-- What one event leaves in the Status Writer: the device event set and counters given, the masks as they
were, and the event closed. -/
structure StatusBecomes (s t : State) (events : BitVec 10) (counters : Vector Nat 8)
    (queued : List RecordId) : Prop where
  events : t.status.events = events
  counters : t.status.counters = counters
  mask : t.status.mask = s.status.mask
  summaryMask : t.status.summaryMask = s.status.summaryMask
  closes : ClosesWith s t queued

/-- One counter of a set of counters incremented, its top value kept (R159). -/
def bump {n : Nat} (v : Vector Nat n) (k : Fin n) : Vector Nat n := v.set k.val (min 4294967295 (v[k.val] + 1))

/-! ### Command words -/

/-- R152, R156: the device event set after a command word: FIELD_CLAMPED is bit 9, CMD_REFUSED bit 8. -/
def wordEvents (events : BitVec 10) (clamped : Bool) (r : ResultCode) : BitVec 10 :=
  events ||| (if clamped then 512#10 else 0#10) ||| (if r = .done then 0#10 else 256#10)

/-- R156: the device counters after a command word: command refusals is the eighth. -/
def wordCounters (counters : Vector Nat 8) (r : ResultCode) : Vector Nat 8 :=
  if r = .done then counters else bump counters 7

/-- R150, R152, R156: what a command word with a result leaves in the Status Writer: the command echo record is
queued, with the device record where a flag is latched, and the records of `more`. -/
def WordStatus (s t : State) (clamped : Bool) (r : ResultCode) (more : List RecordId) : Prop :=
  StatusBecomes s t (wordEvents s.status.events clamped r) (wordCounters s.status.counters r)
    (.echo :: (if clamped || decide (r ≠ .done) then [.device] else []) ++ more)

/-- R152, step 3: the selection after a DATA word. -/
def selectionAfterData (x : Selection) : Selection :=
  if x.next < lastField x.target then { target := x.target, next := x.next + 1 }
  else { target := .none, next := 0 }

/-- R152, R156: what a DATA word leaves in the Command Decoder and the Status Writer, given its result, its
effective value and whether it was clamped. -/
def DataTaken (s t : State) (r : ResultCode) (value : Nat) (clamped : Bool) (more : List RecordId) : Prop :=
  t.decoder =
      { sel := selectionAfterData s.decoder.sel
        echo :=
          { s.decoder.echo with
            count := s.decoder.echo.count + 1, dataKind := kindCode s.decoder.sel.target
            dataIndex := indexCode s.decoder.sel.target, dataField := s.decoder.sel.next
            dataResult := r, dataClamped := clamped, dataValue := BitVec.ofNat 64 value } } ∧
    WordStatus s t clamped r more

/-- R154, R156: what an ACTION word leaves in the Command Decoder, given its code, operand and result. -/
def ActionEcho (s t : State) (code operand : BitVec 8) (r : ResultCode) : Prop :=
  t.decoder =
    { s.decoder with
      echo :=
        { s.decoder.echo with
          count := s.decoder.echo.count + 1, actionCode := code, actionOperand := operand
          actionResult := r } }

/-- R154, R156: an ACTION word that leaves all but the command echo record and the Status Writer as it was. -/
def ActionOnly (s t : State) (code operand : BitVec 8) (r : ResultCode) : Prop :=
  t = { s with decoder := t.decoder, status := t.status } ∧ ActionEcho s t code operand r ∧
    WordStatus s t false r []

/-! ### Tables of the manual -/

/-- Table 10-2: the largest index and the last field of a selection kind. -/
def kindLimits : Nat → Nat × Nat
  | 1 => (23, 20)
  | 2 => (0, 23)
  | 3 => (63, 0)
  | 4 => (1, 4)
  | 5 => (0, 5)
  | 6 => (0, 25)
  | _ => (0, 0)

/-- A range of values: the lowest, the highest, and the granularity. -/
structure FieldRange where
  lo : Nat
  hi : Nat
  step : Nat := 1
  deriving DecidableEq, Repr

/-- 0.6 Clamping: the value stored for a value written: rounded down to the granularity, then clamped. -/
def FieldRange.store (r : FieldRange) (v : Nat) : Nat :=
  let w := v / r.step * r.step
  if w < r.lo then r.lo else if r.hi < w then r.hi else w

/-- Table 1-1: the ranges of the 21 parameter fields. -/
def paramRanges : List FieldRange :=
  [ ⟨0, 0xFFFFFFFFC0, 64⟩, ⟨64, 1048576, 64⟩, ⟨64, 4096, 64⟩, ⟨1, 4096, 1⟩, ⟨1, 64, 1⟩, ⟨1, 8192, 1⟩
  , ⟨1, 8192, 1⟩, ⟨1, 4294967295, 1⟩, ⟨1, 1024, 1⟩, ⟨0, 1, 1⟩, ⟨0, 2147483647, 1⟩, ⟨1, 3, 1⟩
  , ⟨0, 1000000, 1⟩, ⟨0, 1, 1⟩, ⟨0, 2, 1⟩, ⟨0, 0xFFFFFFFF, 1⟩, ⟨2, 32, 1⟩, ⟨1000, 100000000, 1⟩
  , ⟨0, 2147483647, 1⟩, ⟨0, 2147483647, 1⟩, ⟨100000, 1000000000, 1⟩ ]

/-- Tables 5-1 and 7-1: the ranges of a path's five settings. -/
def pathRanges : List FieldRange := [⟨0, 1, 1⟩, ⟨20, 10000, 1⟩, ⟨0, 255, 1⟩, ⟨0, 1, 1⟩, ⟨0, 50000, 1⟩]

/-- Table 1-1: the number of the model. -/
def modelNumber : Model → Nat
  | .even => 0
  | .active => 1

/-- Table 1-1: the number of the path set. -/
def pathSetNumber : PathSet → Nat
  | .onlyA => 1
  | .onlyB => 2
  | .bothAB => 3

/-- Table 1-1: the number of the fill policy. -/
def policyNumber : FillPolicy → Nat
  | .stale => 0
  | .pattern => 1
  | .error => 2

/-- Table 1-1: the fields of a parameter record as numbers, in the order of the table. -/
def Params.numbers (p : Params) : List Nat :=
  [ p.windowBase, p.lineStride, p.segStride, p.segLen, p.segsPerLine, p.activeLines, p.totalLines, p.num
  , p.den, modelNumber p.model, p.launchOffset, pathSetNumber p.pathSet, p.skewB, bit p.classOne
  , policyNumber p.policy, p.fillWord.toNat, p.meterDepth, p.lateLimit, p.marginThreshold
  , p.marginHysteresis, p.armingLead ]

/-- Tables 5-1 and 7-1: a path's five settings as numbers. -/
def PathState.numbers (x : PathState) : List Nat :=
  [bit x.enable, x.byteTime, x.overhead, bit x.leadAuto, x.lead]

/-- Table 6-1: the six fields of the reference record as numbers. -/
def RefRecord.numbers (r : RefRecord) : List Nat :=
  [bit r.enable, r.interval, r.lockWindow, r.unlockWindow, r.stepThreshold, r.nextPulse]

/-- R143: the mapping value of a tag table entry. -/
def mappingNumber : TagEntry → Nat
  | none => 0
  | some (i, .A) => 2 * i.val + 1
  | some (i, .B) => 2 * i.val + 2

/-- R10: the checks of an ARM of a stream in their order, each with its code and whether it refuses. -/
def armChecks (s : State) (i : StreamId) : List (ResultCode × Bool) :=
  let p := (s.stream i).staged
  let n := p.activeLines * p.segsPerLine
  let ring := (carveBase s.carve (i.val + 1) - carveBase s.carve i.val) / p.segsPerLine
  let len := ring * p.lineStride
  let g := match p.model with | .even => p.num | .active => p.num * p.activeLines
  let d := match p.model with | .even => p.den * n | .active => p.den * p.totalLines * n
  [ (.state, decide ((s.stream i).state ≠ .idle))
  , (.period, decide (p.num < 1000 * p.den))
  , (.lines, decide (p.totalLines < p.activeLines))
  , (.stride, decide (p.segStride < p.segLen ∨ p.lineStride < p.segsPerLine * p.segStride))
  , (.ring, decide (ring < 2))
  , (.gap, decide (g / d < 64))
  , (.window,
      decide (2 ^ 40 < p.windowBase + len) ||
        overlaps p.windowBase len (s.straps.toNat * 65536) 65536 ||
        (List.finRange 24).any fun j =>
          decide (j ≠ i) && decide ((s.stream j).state ≠ .idle) &&
            overlaps p.windowBase len (s.stream j).active.windowBase
              ((s.stream j).ring * (s.stream j).active.lineStride))
  , (.path,
      p.pathSet.paths.any fun q =>
        !(s.paths.get q).enable || decide ((s.tags.toList.countP fun x => x == some (i, q)) ≠ 1)) ]

/-- R10: the result of an ARM: the code of the first check that refuses, or DONE. -/
def armResult (s : State) (i : StreamId) : ResultCode :=
  match (armChecks s i).find? (·.2) with
  | none => .done
  | some (c, _) => c

/-! ### Streams and held reads -/

/-- R20: a stream after its entry into IDLE: what a run holds is discarded, IDLED (bit 1) is latched, and the rest
is as it was. -/
def idleOf (st : Stream) : Stream :=
  { st with
    state := .idle, pendingApply := none, fStop := none, window := none, clockNow := none, clockNext := none
    acc := ⟨none, none⟩, qHead := none, meters := ⟨none, none⟩, events := st.events ||| 2#16 }

/-- R67, R84: an entry answered with error without a grant. -/
def failedRead (e : HeldRead) : HeldRead :=
  { e with phase := .forwarded, outcome := none, permit := none, deferred := false
           answer := .returning .error }

/-- R84: the held-read table with every unanswered entry of a stream answered with error. -/
def failedReads (i : StreamId) (held : List HeldRead) : List HeldRead :=
  held.map fun e => if e.stream = i ∧ e.phase ≠ .forwarded then failedRead e else e

/-- Whether a path is in a stream's path set. -/
def inSet (x : PathSet) (p : Path) : Prop := x = .bothAB ∨ (x = .onlyA ∧ p = .A) ∨ (x = .onlyB ∧ p = .B)

/-- R15, R42: `f` is the highest frame in which a position of the stream has been assigned on any path: on some path
of the set the next position stands past frame f's first, or at the start of frame f + 1 with f not before
f0; and no path's next position stands further than the start of frame f + 1. -/
def HighestAssigned (st : Stream) (f : Nat) : Prop :=
  (∃ f0, st.first = some f0 ∧ f0.frame ≤ f ∧
      ∃ p a np, inSet st.active.pathSet p ∧ st.acc.get p = some a ∧ a.next = some np ∧
        ((np.frame.frame = f ∧ np.n ≠ 0) ∨ (np.frame.frame = f + 1 ∧ np.n = 0))) ∧
    ∀ p a np, inSet st.active.pathSet p → st.acc.get p = some a → a.next = some np →
      np.frame.frame ≤ f ∨ (np.frame.frame = f + 1 ∧ np.n = 0)

/-- R15, R42: no position has been assigned on any path of the stream: every next position is (f0, 0). -/
def NoneAssigned (st : Stream) : Prop :=
  ∀ p a np, inSet st.active.pathSet p → st.acc.get p = some a → a.next = some np →
    np.n = 0 ∧ ∃ f0, st.first = some f0 ∧ np.frame.frame = f0.frame

/-- R16: every path of a set has assigned position (f, N − 1), its next position `next` standing in a later frame,
and none of the entries `held` keeps a position of it unconsumed. -/
def PathsThrough (set : PathSet) (held : List HeldRead) (i : StreamId) (f : Nat)
    (next : Path → Option NextPos) : Prop :=
  ∀ p, inSet set p →
    (∃ np, next p = some np ∧ f < np.frame.frame) ∧
      ∀ e ∈ held, e.stream = i → e.path = p → e.phase ≠ .waiting ∧ e.phase ≠ .eligible

/-- The next position of a stream-path, if it has one. -/
def Stream.nextOf (st : Stream) (p : Path) : Option NextPos := (st.acc.get p).bind (·.next)

/-- R16: every path of the stream has assigned position (f, N − 1) and consumed every position assigned on it. -/
def DrainedThrough (s : State) (i : StreamId) (f : Nat) : Prop :=
  PathsThrough (s.stream i).active.pathSet s.gate.held i f (s.stream i).nextOf

/-- R16, R83: the stream is DRAINING and a consumption completes its drain, `next` being the next positions of its
paths after it and `held` the entries that may still hold a position. -/
def DrainEnds (st : Stream) (held : List HeldRead) (i : StreamId) (next : Path → Option NextPos) : Prop :=
  st.state = .draining ∧ ∃ f, st.fStop = some f ∧ PathsThrough st.active.pathSet held i f next

/-- R73: no entry of a path is WAITING with its release time reached. -/
def NoneDue (s : State) (p : Path) : Prop :=
  ∀ e ∈ s.gate.held, e.path = p → e.phase = .waiting → ∃ a, e.assigned = some a ∧ s.time.now < a.release

/-- R73, R99: no entry of the held-read table is eligible for grant or about to be: none is WAITING with its
release time reached, and each that is ELIGIBLE waits for its permit time or finds its path disabled or busy. -/
def NothingToGrant (s : State) : Prop :=
  (∀ p, NoneDue s p) ∧
    ∀ e ∈ s.gate.held, e.phase = .eligible →
      (s.paths.get e.path).enable = false ∨ s.time.now < (s.paths.get e.path).busyUntil ∨
        ∀ t, e.permit = some t → s.time.now < t

/-- R99: an entry is eligible for grant on its path. -/
def EligibleForGrant (s : State) (e : HeldRead) : Prop :=
  e ∈ s.gate.held ∧ e.phase = .eligible ∧ (s.paths.get e.path).enable = true ∧
    (s.paths.get e.path).busyUntil ≤ s.time.now ∧ ∃ t, e.permit = some t ∧ t ≤ s.time.now

/-- R101: of two entries eligible for grant on a path, the first is granted before the second or is it: by the
earliest release time; then class 1 before class 0; then the first stream after the class's last winner,
wrapping from 23 to 0, that winner's own stream last; then the earliest arrival. -/
def GrantedFirst (s : State) (p : Path) (e x : HeldRead) : Prop :=
  let one := fun y : HeldRead => (s.stream y.stream).active.classOne
  let place := fun y : HeldRead =>
    (y.stream.val + 23 -
      (if one y then (s.paths.get p).lastWinner1 else (s.paths.get p).lastWinner0).val) % 24
  e.release ≤ x.release ∧
    (e.release = x.release → (one x = true → one e = true) ∧
      (one e = one x → place e ≤ place x ∧ (e.stream = x.stream → e.ticket ≤ x.ticket)))

/-- R73, R95, R99: an entry of a path that an event at the present instant finds eligible for grant: ELIGIBLE with
its permit time reached, or WAITING with its release time reached and its meter not above the allowance. -/
def ReadyToGo (s : State) (p : Path) (x : HeldRead) : Prop :=
  let st := s.stream x.stream
  x ∈ s.gate.held ∧ x.path = p ∧
    (x.phase = .eligible ∧ (∃ t, x.permit = some t ∧ t ≤ s.time.now) ∨
      x.phase = .waiting ∧ x.release ≤ s.time.now ∧
        st.levelAt p s.time.now ≤ (st.active.meterDepth - 1) * st.active.gapG)

/-- R95: `q` is the permit time that a test at `now` gives: the first instant from `now` on at which a level,
draining `d` units a nanosecond, is not above the allowance. -/
def FirstPermitted (level d allowance now q : Nat) : Prop :=
  now ≤ q ∧ level ≤ allowance + d * (q - now) ∧ ∀ u, now ≤ u → u < q → allowance + d * (u - now) < level

/-- R95, R96: what the charge of entry e's meter by its grant leaves of the other entries. Every other ELIGIBLE entry
of its stream-path has the permit time of the charged level; one that the level forbids is deferred, DEFERRED
(bit 10) is latched, and where its mark was clear it is counted. Every other entry is as it was. -/
def ChargeRetests (s t : State) (e : HeldRead) : Prop :=
  let st := s.stream e.stream
  let level := st.levelAt e.path s.time.now + st.active.gapG
  let allowance := (st.active.meterDepth - 1) * st.active.gapG
  let tested := fun x : HeldRead =>
    x.ticket ≠ e.ticket ∧ x.stream = e.stream ∧ x.path = e.path ∧ x.phase = .eligible
  let newly := s.gate.held.countP fun x => decide (tested x ∧ x.deferred = false)
  (∀ x ∈ s.gate.held, x.ticket ≠ e.ticket → ¬tested x → x ∈ t.gate.held) ∧
    (∀ x ∈ s.gate.held, tested x → ∃ q, FirstPermitted level st.active.gapD allowance s.time.now q ∧
      { x with permit := some q, deferred := x.deferred || decide (q ≠ s.time.now) } ∈ t.gate.held) ∧
    ((∃ x ∈ s.gate.held, tested x) → allowance < level → (t.stream e.stream).events.getLsbD 10 = true) ∧
    (t.stream e.stream).counters[9] =
      (fun v => min 4294967295 (v + 1))^[if allowance < level then newly else 0] st.counters[9]

/-- R146: a request that becomes ready now goes before one that stands ready: both became ready at the same instant,
and it is a pass request and the other a released read, or both are released reads and its grant time is
earlier, or the grant times are equal and its path is A and the other's B. -/
def ReadyBefore (x y : SendItem) : Prop :=
  x.readyAt = y.readyAt ∧
    match x.body, y.body with
    | .pass _, .released _ => True
    | .released a, .released b => a.grantTime < b.grantTime ∨ a.grantTime = b.grantTime ∧ a.path = .A ∧ b.path = .B
    | _, .pass _ => False

/-- R146: a request joins the ready requests of the send forwarder: in front of the first that it goes before. -/
def JoinsReady (x : SendItem) (l l' : List SendItem) : Prop :=
  ∃ ahead behind, l = ahead ++ behind ∧ l' = ahead ++ x :: behind ∧ (∀ y ∈ ahead, ¬ReadyBefore x y) ∧
    ∀ y ∈ behind.head?, ReadyBefore x y

/-- R146: several requests join the ready requests one by one. -/
def JoinReady : List SendItem → List SendItem → List SendItem → Prop
  | [], l, l' => l' = l
  | x :: xs, l, l' => ∃ m, JoinsReady x l m ∧ JoinReady xs m l'

/-- R146, R147: a released read enters the send forwarder. Where the fill forwarder holds no accounted write it is
ready at once, at the instant `osc` (notes/assumptions/9.md); otherwise it waits for the requests up to and
including the last accounted write, the n first of the fill forwarder. -/
def EntersSendForwarder (s t : State) (r : Released) : Prop :=
  ∃ n, (∀ k x, n ≤ k → s.ports.fillForwarder[k]? = some x → x.cls ≠ .accounted) ∧
    (n = 0 → t.ports = { s.ports with sendReady := t.ports.sendReady } ∧
      JoinsReady { readyAt := s.time.osc, body := .released r } s.ports.sendReady t.ports.sendReady) ∧
    (n ≠ 0 → (∃ x, s.ports.fillForwarder[n - 1]? = some x ∧ x.cls = .accounted) ∧
      t.ports = { s.ports with sendBlocked := s.ports.sendBlocked ++ [⟨n, r⟩] })

/-- R6: the first entry of the offset schedule is no longer needed: every path of the set has been assigned a position
in a frame not earlier than g, its next position being `next`. -/
def AssignedFrom (st : Stream) (next : Path → Option NextPos) (g : Nat) : Prop :=
  ∀ p, inSet st.active.pathSet p → ∃ np f0, next p = some np ∧ st.first = some f0 ∧
    (np.n ≠ 0 ∧ g ≤ np.frame.frame ∨ np.n = 0 ∧ f0.frame < np.frame.frame ∧ g < np.frame.frame)

/-- R53, R144: a read with a tag mapped to stream i and path p, of the stream's path set, starts segment k of slot j
of the window of stream i, which is not IDLE; the layout is one that an ARM accepts. -/
structure GatedAt (s : State) (tag : Tag) (addr : Nat) (i : StreamId) (p : Path) (j k : Nat) : Prop where
  mapped : s.tags[tag.val] = some (i, p)
  notIdle : (s.stream i).state ≠ .idle
  inPathSet : inSet (s.stream i).active.pathSet p
  window : (s.stream i).window =
    some ⟨(s.stream i).active.windowBase, (s.stream i).ring * (s.stream i).active.lineStride⟩
  layout : (s.stream i).active.segsPerLine * (s.stream i).active.segStride ≤ (s.stream i).active.lineStride
  stride : 0 < (s.stream i).active.segStride
  slot : j < (s.stream i).ring
  seg : k < (s.stream i).active.segsPerLine
  addr : addr = (s.stream i).active.windowBase + j * (s.stream i).active.lineStride +
    k * (s.stream i).active.segStride

/-- R67, R69: the entry made for a gated read, before anything is decided of it. -/
def newEntry (s : State) (tag : Tag) (addr : Addr) (len : Nat) (i : StreamId) (p : Path) (j k : Nat) :
    HeldRead :=
  { ticket := s.gate.nextTicket, stream := i, path := p, tag := tag, addr := addr, len := len, readSlot := j
    readSeg := k, assigned := none, phase := .unassigned, outcome := none, snapshot := none, pastRun := false
    permit := none, deferred := false, answer := .undecided }

/-- R53: the byte at an address is a payload byte of segment k of slot j of a stream's active window. -/
def PayloadByte (s : State) (i : StreamId) (x j k : Nat) : Prop :=
  let st := s.stream i
  (st.state = .aligning ∨ st.state = .armed ∨ st.state = .running ∨ st.state = .draining) ∧
    ∃ w, st.window = some w ∧ w.base ≤ x ∧ x < w.base + w.len ∧ j = (x - w.base) / st.active.lineStride ∧
      k = (x - w.base) % st.active.lineStride / st.active.segStride ∧ k < st.active.segsPerLine ∧
      (x - w.base) % st.active.lineStride % st.active.segStride < st.active.segLen

/-- R55: the line, among the R from q_head on, that lives in a slot. -/
def lineInSlot (qHead ring slot : Nat) : Nat := qHead + (slot + ring - qHead % ring) % ring

/-- R53: the bytes of a write, from an address on, that are payload bytes of segment k of slot j of a window. -/
def bytesInSegment (p : Params) (addr : Nat) (d : List Byte) (j k : Nat) : List Byte :=
  let start := p.windowBase + j * p.lineStride + k * p.segStride
  (d.take (start + p.segLen - addr)).drop (start - addr)

/-- R55: the record that a write for a line finds: as it stands where it holds that line, otherwise re-armed. -/
def recordFound (old : SegRecord) (line : Nat) : SegRecord :=
  if old.seq = BitVec.ofNat 32 line then old
  else { seq := BitVec.ofNat 32 line, bytes := 0, writeSum := 0, readyTime := none, released := ⟨false, false⟩ }

/-- R56, R57: a record after payload bytes have been accounted into it at an instant. -/
def recordAfter (found : SegRecord) (segLen : Nat) (d : List Byte) (now : Nat) : SegRecord :=
  { found with
    bytes := min segLen (found.bytes + d.length)
    writeSum := found.writeSum + BitVec.ofNat 32 (d.map BitVec.toNat).sum
    readyTime := if found.bytes < segLen ∧ segLen ≤ found.bytes + d.length then some now else found.readyTime }

/-- R58: a write to segment k of slot j of a stream is TORN: it has payload bytes there and finds the line released
on some path. -/
def tornAt (s : State) (i : StreamId) (addr : Nat) (d : List Byte) (j k : Nat) : Bool :=
  let st := s.stream i
  let old := lookupSeg s.segs (carveBase s.carve i.val + j * st.active.segsPerLine + k)
  decide (bytesInSegment st.active addr d j k ≠ []) &&
    decide ((recordFound old (lineInSlot (st.qHead.getD 0) st.ring j)).released ≠ ⟨false, false⟩)

/-- R58: how many segments of a stream's window a write finds TORN. -/
def tornCount (s : State) (i : StreamId) (addr : Nat) (d : List Byte) : Nat :=
  ((List.range (s.stream i).ring).map fun j =>
    (List.range (s.stream i).active.segsPerLine).countP fun k => tornAt s i addr d j k).sum

/-- Table 10-1: the offset of a command word. -/
def wordOffset : CommandWord → Nat
  | .select => 0
  | .data => 8
  | .action => 16

/-- R141: the command of a whole command word of a value, 8 bytes long, as the row that takes it whatever it holds
(notes/assumptions/2.md). -/
def wholeWord : CommandWord → BitVec 64 → Instr
  | .select, v => .select v
  | .data, v => .dataNoSelection v
  | .action, v => .unknownActionCode v

/-- R141: what one command word comes to in a write of some bytes at an address: taken as its command where the
write covers it whole, its bytes least significant first (notes/assumptions/26.md); taken as a partial word
where the write touches it otherwise; nothing where it does not. -/
def WordTaken (addr : Nat) (d : List Byte) (w : CommandWord) (s t : State) : Prop :=
  let at0 := s.straps.toNat * 65536 + wordOffset w
  let whole := addr ≤ at0 ∧ at0 + 8 ≤ addr + d.length
  let touched := addr < at0 + 8 ∧ at0 < addr + d.length
  (whole → exec (wholeWord w (BitVec.ofNat 64 (leValue ((d.drop (at0 - addr)).take 8)))) s = .next t) ∧
    (touched → ¬whole → exec (.partialCommandWord w) s = .next t) ∧ (¬touched → t = s)

/-- Table 10-1: the offset of the event word of a record, for the records that have one (R142). -/
def eventWordOffset : RecordId → Option Nat
  | .summary => none
  | .echo => none
  | .device => some 0x1040
  | .stream i => some (0x1100 + 0x80 * i.val)

/-- R140, R142: a read of a range covers the whole of a record's event word. -/
def CoversEventWord (s : State) (addr len : Nat) (r : RecordId) : Prop :=
  ∃ off, eventWordOffset r = some off ∧ addr ≤ s.straps.toNat * 65536 + off ∧
    s.straps.toNat * 65536 + off + 8 ≤ addr + len

/-- R142: the event word of a record in the data of a read at an address, read least significant byte first. -/
def wordShown (s : State) (addr : Nat) (data : List Byte) (r : RecordId) : Nat :=
  leValue ((data.drop (s.straps.toNat * 65536 + (eventWordOffset r).getD 0 - addr)).take 8)

/-- R146: the source the memory port grants next, by the last-granted source: the first that waits after it in the
rotation fill, send, status. -/
def nextGranted (x : Ports) : Option Source :=
  let fill := if x.fillForwarder ≠ [] then some Source.fill else none
  let send := if x.sendReady ≠ [] then some Source.send else none
  let status := if x.statusSource ≠ none then some Source.status else none
  match x.lastGranted with
  | .status => (fill.orElse fun _ => send).orElse fun _ => status
  | .fill => (send.orElse fun _ => status).orElse fun _ => fill
  | .send => (status.orElse fun _ => fill).orElse fun _ => send

/-- Tables 10-5 to 10-8: the value of a field of a record, least significant byte first. -/
def fieldAt (record : List Byte) (offset size : Nat) : Nat := leValue ((record.drop offset).take size)

/-- R157: a signed value in two's complement in 4 bytes, as a number; 8000_0000h for no sample. -/
def signedNumber : Option Int → Nat
  | none => 0x80000000
  | some x => (x % 4294967296).toNat

/-! ### Properties that every step keeps -/

/-- R165: the attention line has the level that the latched sets and the masks call for. -/
def AttentionRight (s : State) : Prop := s.status.attn = true ↔ AttentionCalled s

/-- R160: the pending update set holds each record at most once. -/
def UpdatesOnce (s : State) : Prop := s.status.updates.Nodup

/-- R65, R68: the held-read table holds at most 48 entries, no two of one ticket and none of a ticket still to be
given. -/
def HeldTableRight (s : State) : Prop :=
  s.gate.held.length ≤ 48 ∧ (s.gate.held.map (·.ticket)).Nodup ∧
    ∀ e ∈ s.gate.held, e.ticket < s.gate.nextTicket

/-- R120: each echo queue holds at most 32 entries. -/
def EchoQueuesBounded (s : State) : Prop := ∀ p, (s.paths.get p).echoQueue.length ≤ 32

/-- R118: each path's lead lies within 0 to 50,000 ns. -/
def LeadsBounded (s : State) : Prop := ∀ p, (s.paths.get p).lead ≤ 50000

/-- R109: rate and trim lie within ±200,000 ppb. -/
def RateBounded (s : State) : Prop :=
  -200000 ≤ s.lock.rate ∧ s.lock.rate ≤ 200000 ∧ -200000 ≤ s.lock.trim ∧ s.lock.trim ≤ 200000

/-- R159: every counter lies within 0 to 4,294,967,295. -/
def CountersBounded (s : State) : Prop :=
  (∀ i, ∀ v ∈ (s.stream i).counters.toList, v ≤ 4294967295) ∧ ∀ v ∈ s.status.counters.toList, v ≤ 4294967295

/-- R150, R151: the selection's next field is a field of its kind. -/
def SelectionInRange (s : State) : Prop := s.decoder.sel.next ≤ lastField s.decoder.sel.target

/-- R46, R47: the carve table stays ascending up to base[24]. -/
def CarveAscending (s : State) : Prop := ∀ k < 24, carveBase s.carve k ≤ carveBase s.carve (k + 1)

/-- R105: the time base does not pass its top value, and its fraction is less than 1 ns. -/
def TimeInRange (s : State) : Prop := s.time.now ≤ 2 ^ 64 - 1 ∧ s.time.frac < 1000000000

/-- R108, R109: no state but FREE is without an epoch. -/
def LockHasEpoch (s : State) : Prop := s.lock.state ≠ .free → s.lock.epoch.isSome

/-- R107: the unlock window is never below the lock window. -/
def UnlockAboveLock (s : State) : Prop := s.refRec.lockWindow ≤ s.refRec.unlockWindow

/-- R1: f_stop is present only while the stream is DRAINING. -/
def StopFrameOnlyDraining (s : State) : Prop :=
  ∀ i, (s.stream i).fStop.isSome → (s.stream i).state = .draining

/-- R4, R11, R139: the windows: absent exactly while the stream is IDLE, otherwise R × LS bytes from the active
copy's base, inside the address space, clear of the control region and of each other. -/
def WindowsApart (s : State) : Prop :=
  (∀ i, (s.stream i).window =
      if (s.stream i).state = .idle then none
      else some ⟨(s.stream i).active.windowBase, (s.stream i).ring * (s.stream i).active.lineStride⟩) ∧
    (∀ i w, (s.stream i).window = some w →
      w.base + w.len ≤ 2 ^ 40 ∧ overlaps w.base w.len s.controlBase 65536 = false) ∧
    ∀ i j w x, i ≠ j → (s.stream i).window = some w → (s.stream j).window = some x →
      overlaps w.base w.len x.base x.len = false

/-- R4, R10, R48: the layout of a stream that is not IDLE is one that an ARM accepts, and its ring lies in its own part
of the carve. -/
def RingsRight (s : State) : Prop :=
  ∀ i, let st := s.stream i
    st.state ≠ .idle →
      2 ≤ st.ring ∧ st.active.segLen ≤ st.active.segStride ∧
        st.active.segsPerLine * st.active.segStride ≤ st.active.lineStride ∧
        st.ring * st.active.segsPerLine ≤ carveBase s.carve (i.val + 1) - carveBase s.carve i.val

/-- R52: the bytes field of every used record of a stream that is not IDLE lies in 0 to L. -/
def RecordsWithin (s : State) : Prop :=
  ∀ i, let st := s.stream i
    st.state ≠ .idle → ∀ idx, carveBase s.carve i.val ≤ idx →
      idx < carveBase s.carve i.val + st.ring * st.active.segsPerLine →
        (lookupSeg s.segs idx).bytes ≤ st.active.segLen

/-- R39: the head of a stream-path: the line of the position that its oldest WAITING or ELIGIBLE entry holds, and
where it has none, of the next position. -/
def HeadIs (s : State) (i : StreamId) (p : Path) (h : Nat) : Prop :=
  let st := s.stream i
  let holds := fun e : HeldRead => e.stream = i ∧ e.path = p ∧ (e.phase = .waiting ∨ e.phase = .eligible)
  (∃ before e after a, s.gate.held = before ++ e :: after ∧ (∀ x ∈ before, ¬holds x) ∧ holds e ∧
      e.assigned = some a ∧ h = a.line) ∨
    (∀ x ∈ s.gate.held, ¬holds x) ∧ ∃ np, st.nextOf p = some np ∧
      h = (np.frame.frame - (st.first.map (·.frame)).getD 0) * st.active.activeLines +
        np.n / st.active.segsPerLine

/-- R39, R40, R44: the heads and q_head, while the reset line is not asserted (its assertion abandons the held reads,
R149, and its release discards the heads). In ALIGNING they are 0, with no next position yet; in ARMED, RUNNING and
DRAINING each head is as R39 says, and q_head is the head of a single path, and of two the larger of their
minimum and of their maximum less R − 1. -/
def HeadsRight (s : State) : Prop :=
  s.inReset = false → ∀ i, let st := s.stream i
    (st.state = .aligning → st.qHead = some 0 ∧ ∀ p a, st.acc.get p = some a → a.next = none ∧ a.head = 0) ∧
    (st.state = .armed ∨ st.state = .running ∨ st.state = .draining →
      (∀ p a, st.acc.get p = some a → HeadIs s i p a.head) ∧
      (st.active.pathSet = .onlyA → st.qHead = st.acc.a.map (·.head)) ∧
      (st.active.pathSet = .onlyB → st.qHead = st.acc.b.map (·.head)) ∧
      (st.active.pathSet = .bothAB → ∀ a b, st.acc.a = some a → st.acc.b = some b →
        st.qHead = some (max (min a.head b.head) (max a.head b.head - (st.ring - 1)))))

/-- R6, R7: the offset schedule holds at most 8 entries, with room for the one a pending-apply record will append. -/
def OffsetsBounded (s : State) : Prop :=
  ∀ i, (s.stream i).offsets.length ≤ 8 ∧
    ((s.stream i).pendingApply.isSome = true → (s.stream i).offsets.length ≤ 7)

/-- R146: the fill forwarder holds at most 64 requests, and the send forwarder at most 64 pass requests. -/
def ForwardersBounded (s : State) : Prop :=
  s.ports.fillForwarder.length ≤ 64 ∧
    (s.ports.sendReady.filter fun y => match y.body with | .pass _ => true | .released _ => false).length ≤ 64

/-- R129: the margin trackers lie within 0 to 2,147,483,647. -/
def TrackersBounded (s : State) : Prop :=
  ∀ i F S, (s.stream i).margin.trackers = some ⟨F, S⟩ → F ≤ 2147483647 ∧ S ≤ 2147483647

/-- 0.6 Clamping: the fields of a record lie in their ranges, at their granularity. -/
def InRanges (ranges : List FieldRange) (values : List Nat) : Prop :=
  List.Forall₂ (fun r v => r.lo ≤ v ∧ v ≤ r.hi ∧ v % r.step = 0) ranges values

/-- Tables 1-1, 5-1, 6-1 and 7-1: every staged record, active copy and pending-apply record, the path settings and
the reference record lie in their fields' ranges. -/
def FieldsInRange (s : State) : Prop :=
  (∀ i, InRanges paramRanges (s.stream i).staged.numbers ∧ InRanges paramRanges (s.stream i).active.numbers ∧
      ∀ r, (s.stream i).pendingApply = some r →
        InRanges paramRanges ((s.stream i).active.withLive r.live).numbers) ∧
    (∀ p, InRanges pathRanges (s.paths.get p).numbers) ∧
    InRanges
      [ ⟨0, 1, 1⟩, ⟨1000000, 1000000000, 1⟩, ⟨1, 1000000, 1⟩, ⟨s.refRec.lockWindow, 10000000, 1⟩
      , ⟨1000, 1000000000, 1⟩, ⟨0, 2 ^ 64 - 1, 1⟩ ] s.refRec.numbers

/-- R45: the segment table lists each initialised record once, by rising number. -/
def SegmentsSorted (s : State) : Prop := (s.segs.map (·.1)).Pairwise (· < ·)

/-- R1, R20, R23, R32, R40, R93: an IDLE stream holds no frame record, accumulator, q_head, meter, pending-apply
record or f_stop; any other holds q_head and one accumulator and meter for each path of its set and for no
other path, with a next position once ALIGN has completed. -/
def RunStateRight (s : State) : Prop :=
  ∀ i, let st := s.stream i
    (st.state = .idle →
      st.clockNow = none ∧ st.clockNext = none ∧ st.acc = ⟨none, none⟩ ∧ st.qHead = none ∧
        st.meters = ⟨none, none⟩ ∧ st.pendingApply = none ∧ st.fStop = none) ∧
    (st.state ≠ .idle →
      st.qHead.isSome = true ∧ ∀ p, ((st.acc.get p).isSome = true ↔ inSet st.active.pathSet p) ∧
        ((st.meters.get p).isSome = true ↔ inSet st.active.pathSet p) ∧
        (st.state ≠ .aligning → ∀ a, st.acc.get p = some a → a.next.isSome = true))

/-- R67, R69, R84, R90: an unanswered entry belongs to a stream that is active, on a path of its set; it is
UNASSIGNED only while the stream is ALIGNING, and has a position in WAITING and ELIGIBLE. -/
def UnansweredOnAir (s : State) : Prop :=
  ∀ e ∈ s.gate.held, e.phase ≠ .forwarded →
    inSet (s.stream e.stream).active.pathSet e.path ∧
      (s.stream e.stream).state ≠ .idle ∧ (s.stream e.stream).state ≠ .halted ∧
      (e.phase = .unassigned ↔ (s.stream e.stream).state = .aligning) ∧
      (e.phase ≠ .unassigned → e.assigned.isSome = true)

end Sys2Proof.Machine
end

