-- ==== Sys2Proof/Certificates/Slice0/Obligations.lean ====
section
/-! DEFINITION. The statements for the provers: the manual's rules, command by command, and the properties that every
step keeps. The frame of a statement is written as an update of the state before: what the update does not
name is as it was. -/

open Sys2Proof Sys2Proof.Machine

/-! ### The queue, the clock and the reset line -/

/-- The front command of the queue is run, and nothing else (the block's own form of "a step runs the decoded
command"). -/
def Obligations.StepRunsFrontCommand : Prop :=
  ∀ (s : State) (c : Instr) (rest : List Instr),
    s.pending = c :: rest → step s = exec c { s with pending := rest }

/-- The model's choice (notes/assumptions/1.md) for an empty queue: one nanosecond of oscillator time. The time
base advances by 1 + rate × 10^-9 ns with its fraction carried (R105), and the queue then holds exactly the
events that are due, each of them named here, and no other command; nothing else changes. -/
def Obligations.EmptyQueueTicks : Prop :=
  ∀ s : State, s.pending = [] → s.inReset = false → RateBounded s →
    s.time.frac < 1000000000 → s.time.now + 2 ≤ 2 ^ 64 - 1 →
    ∃ t, step s = .next t ∧ t = { s with time := t.time, pending := t.pending } ∧
      (t.time.now * 1000000000 + t.time.frac : Int) =
        s.time.now * 1000000000 + s.time.frac + 1000000000 + s.lock.rate ∧
      t.time.frac < 1000000000 ∧
      ∀ c, c ∈ t.pending ↔
        match c with
        | .statusPosting => s.ports.statusSource = none ∧ s.status.updates ≠ []
        | .pulseTimeout => (s.lock.state = .acquiring ∨ s.lock.state = .locked) ∧
            ∃ d, s.lock.deadline = some d ∧ d ≤ t.time.now
        | .firstFrameStart i =>
            (s.stream i).state = .armed ∧ ∃ x, (s.stream i).clockNext = some x ∧ x.start ≤ t.time.now
        | .frameStart i => ((s.stream i).state = .running ∨ (s.stream i).state = .draining) ∧
            ∃ x, (s.stream i).clockNext = some x ∧ x.start ≤ t.time.now
        | .alignCompletion i => (s.stream i).state = .aligning ∧ (s.stream i).tArm + 2000 ≤ t.time.now
        | .drainTimeout i => (s.stream i).state = .draining ∧ ∃ f, (s.stream i).fStop = some f ∧
            (f + 1) * (s.stream i).active.num / (s.stream i).active.den +
              (s.stream i).active.lateLimit ≤ t.time.now
        | .releaseTimeReached k =>
            ∃ e ∈ s.gate.held, e.ticket = k ∧ e.phase = .waiting ∧ e.release ≤ t.time.now
        | .permitTimeReached k =>
            ∃ e ∈ s.gate.held, e.ticket = k ∧ e.phase = .eligible ∧
              ∃ u, e.permit = some u ∧ s.time.now < u ∧ u ≤ t.time.now
        | .pathFree p => s.time.now < (s.paths.get p).busyUntil ∧ (s.paths.get p).busyUntil ≤ t.time.now
        | _ => False

/-- R149 with the reset values of Sections 1 to 11: the release of the reset line gives every block its reset state,
with the straps of the command. What stays is the model's own: the queue, the next ticket, the count of free
values (notes/assumptions/12.md). -/
def Obligations.ResetReleaseGivesResetState : Prop :=
  ∀ (straps : BitVec 24) (s : State), ∃ t, exec (.resetRelease straps) s = .next t ∧
    t.inReset = false ∧ t.straps = straps ∧ t.pending = s.pending ∧ t.freeIndex = s.freeIndex ∧
    t.time.now = 0 ∧ t.time.frac = 0 ∧
    t.refRec.numbers = [0, 1000000000, 1000, 10000, 1000000, 0] ∧
    t.lock = { epoch := none, lastIndex := none, state := .free, trim := 0, rate := 0, good := 0
               lastError := 0, deadline := none } ∧
    t.decoder.sel = { target := .none, next := 0 } ∧
    t.decoder.echo = { count := 0, selectResult := .done, dataKind := 0, dataIndex := 0, dataField := 0
                       dataResult := .done, dataClamped := false, dataValue := 0, actionCode := 0
                       actionOperand := 0, actionResult := .done } ∧
    (∀ i, (t.stream i).state = .idle ∧
      (t.stream i).staged.numbers =
        [0, 64, 64, 1, 1, 1, 1, 1, 1, 0, 0, 1, 0, 0, 0, 0, 4, 1000000, 0, 0, 1000000] ∧
      (t.stream i).active = (t.stream i).staged ∧ (t.stream i).offsets = [⟨none, 0⟩] ∧
      (t.stream i).pendingApply = none ∧ (t.stream i).ring = 0 ∧ (t.stream i).tArm = 0 ∧
      (t.stream i).first = none ∧ (t.stream i).fStop = none ∧ (t.stream i).clockNow = none ∧
      (t.stream i).clockNext = none ∧ (t.stream i).acc = ⟨none, none⟩ ∧ (t.stream i).qHead = none ∧
      (t.stream i).mismatches = ⟨0, 0⟩ ∧ (t.stream i).meters = ⟨none, none⟩ ∧
      (t.stream i).margin = ⟨none, false⟩ ∧ (t.stream i).echoStats = ⟨⟨none, none⟩, ⟨none, none⟩⟩ ∧
      (t.stream i).window = none ∧ (t.stream i).events = 0 ∧ (t.stream i).mask = 0 ∧
      (t.stream i).counters.toList = List.replicate 12 0) ∧
    (∀ k : Fin 24, t.carve[k.val] = 512 * k.val) ∧ t.segs = [] ∧
    t.gate = { held := [], stalled := false, nextTicket := s.gate.nextTicket } ∧
    (∀ p, (t.paths.get p).numbers = [0, 80, 0, 0, 0] ∧ (t.paths.get p).busyUntil = 0 ∧
      (t.paths.get p).lastWinner0 = 23 ∧ (t.paths.get p).lastWinner1 = 23 ∧
      (t.paths.get p).echoQueue = [] ∧ (t.paths.get p).lastError = none ∧
      (t.paths.get p).errRange = ⟨none, none⟩) ∧
    (∀ g : Tag, t.tags[g.val] = none) ∧
    t.ports.fillForwarder = [] ∧ t.ports.sendReady = [] ∧ t.ports.sendBlocked = [] ∧
    t.ports.statusSource = none ∧ t.ports.lastGranted = .status ∧ t.ports.atMemory = [] ∧
    t.status.events = 0 ∧ t.status.mask = 0 ∧ t.status.summaryMask = 0 ∧
    t.status.counters.toList = List.replicate 8 0 ∧ t.status.attn = false ∧
    t.status.updates = .summary :: .device :: .echo :: (List.finRange 24).map RecordId.stream

/-- R149 at the ports, with the model's choice for the rest (notes/assumptions/3.md): the assertion of the reset line
abandons every request the part holds, and while the line is asserted no command but the two of the line has
an effect. -/
def Obligations.ResetLineStopsThePart : Prop :=
  (∀ s : State, ∃ t, exec .resetAssert s = .next t ∧
    t = { s with inReset := true, gate := t.gate, ports := t.ports } ∧
    t.gate = { held := [], stalled := false, nextTicket := s.gate.nextTicket } ∧
    t.ports =
      { s.ports with
        fillForwarder := [], sendReady := [], sendBlocked := [], statusSource := none, atMemory := [] }) ∧
    ∀ (c : Instr) (s : State), s.inReset = true → c ≠ .resetAssert → (∀ x, c ≠ .resetRelease x) →
      exec c s = .next s

/-! ### Command words -/

/-- R151 and Tables 10-2 and 10-9: a SELECT word is refused with FORMAT or INDEX, and the selection stands, or it is
accepted and the selection becomes what the word names; nothing else changes but the command echo record and
the Status Writer's note of the command (R150, R156). -/
def Obligations.SelectFollowsItsTable : Prop :=
  ∀ (w : BitVec 64) (s : State), s.inReset = false →
    let kind := w.toNat % 256
    let index := w.toNat / 256 % 256
    let start := w.toNat / 65536 % 256
    let r : ResultCode :=
      if w.toNat / 16777216 ≠ 0 ∨ 6 < kind then .format
      else if (kindLimits kind).1 < index ∨ (kindLimits kind).2 < start then .index
      else .done
    ∃ t, exec (.select w) s = .next t ∧ t = { s with decoder := t.decoder, status := t.status } ∧
      t.decoder.echo =
        { s.decoder.echo with count := s.decoder.echo.count + 1, selectResult := r } ∧
      (r ≠ .done → t.decoder.sel = s.decoder.sel) ∧
      (r = .done → kindCode t.decoder.sel.target = kind ∧ indexCode t.decoder.sel.target = index ∧
        t.decoder.sel.next = start) ∧
      WordStatus s t false r []

/-- R141, R150, R156: a command word covered only in part is refused with FORMAT, recorded for its word's kind, and
nothing is acted on. Two clauses are the model's choice (notes/assumptions/7.md): a partial ACTION word shows free
values as code and operand, of which only the number drawn is stated; a partial DATA word shows the kind, index
and field of the selection and a clamped flag that is clear, where R156 states its result and its value alone. -/
def Obligations.PartialWordRefused : Prop :=
  ∀ (k : CommandWord) (s : State), s.inReset = false →
    ∃ t, exec (.partialCommandWord k) s = .next t ∧
      t = { s with decoder := t.decoder, status := t.status, freeIndex := t.freeIndex } ∧
      t.decoder.sel = s.decoder.sel ∧ WordStatus s t false .format [] ∧
      (k = .select → t.freeIndex = s.freeIndex ∧
        t.decoder.echo =
          { s.decoder.echo with count := s.decoder.echo.count + 1, selectResult := .format }) ∧
      (k = .data → t.freeIndex = s.freeIndex ∧
        t.decoder.echo =
          { s.decoder.echo with
            count := s.decoder.echo.count + 1, dataKind := kindCode s.decoder.sel.target
            dataIndex := indexCode s.decoder.sel.target, dataField := s.decoder.sel.next
            dataResult := .format, dataClamped := false, dataValue := 0 }) ∧
      (k = .action → t.freeIndex = s.freeIndex + 2 ∧ ∃ code operand,
        t.decoder.echo =
          { s.decoder.echo with
            count := s.decoder.echo.count + 1, actionCode := code, actionOperand := operand
            actionResult := .format })

/-- R152, R156: a DATA word under no selection is refused with NO_SELECTION and shows the effective value 0. -/
def Obligations.DataWithoutSelectionRefused : Prop :=
  ∀ (v : BitVec 64) (s : State), s.inReset = false → s.decoder.sel = { target := .none, next := 0 } →
    ∃ t, exec (.dataNoSelection v) s = .next t ∧
      t = { s with decoder := t.decoder, status := t.status } ∧ DataTaken s t .noSelection 0 false []

/-- R2, Table 1-1: a DATA word directed to a field of a staged record stores the rounded and clamped value there,
whatever the stream's state, and changes no other field of it and nothing else of the stream. -/
def Obligations.StagedFieldStoresClampedValue : Prop :=
  ∀ (v : BitVec 64) (s : State) (i : StreamId) (range : FieldRange), s.inReset = false →
    s.decoder.sel.target = .stream i → paramRanges[s.decoder.sel.next]? = some range →
    ∃ t x, exec (.streamFieldWrite v) s = .next t ∧
      t = { s with decoder := t.decoder, streams := t.streams, status := t.status } ∧
      (∀ j, t.stream j = if j = i then { s.stream j with staged := x } else s.stream j) ∧
      x.numbers = (s.stream i).staged.numbers.set s.decoder.sel.next (range.store v.toNat) ∧
      DataTaken s t .done (range.store v.toNat) (decide (range.store v.toNat ≠ v.toNat)) []

/-- R47: a write of base[k] is refused with BUSY, then with ORDER, and otherwise stored, clamped to 12,288; the
selection advances in every case. -/
def Obligations.CarveWriteChecksThenStores : Prop :=
  ∀ (v : BitVec 64) (s : State) (k : Fin 24), s.inReset = false →
    s.decoder.sel = { target := .carve, next := k.val } →
    let stored := min 12288 v.toNat
    let busy := (s.stream k).state ≠ .idle ∨ ∃ j : StreamId, j.val + 1 = k.val ∧ (s.stream j).state ≠ .idle
    let disorder := (∃ j : Fin 24, j.val + 1 = k.val ∧ stored < s.carve[j.val]) ∨
      (∃ j : Fin 24, j.val = k.val + 1 ∧ s.carve[j.val] < stored)
    ∃ t r, exec (.carveWrite v) s = .next t ∧
      t = { s with decoder := t.decoder, carve := t.carve, status := t.status } ∧
      (busy → r = .busy) ∧ (¬busy → disorder → r = .order) ∧ (¬busy → ¬disorder → r = .done) ∧
      (∀ j : Fin 24, t.carve[j.val] = if j = k ∧ r = .done then stored else s.carve[j.val]) ∧
      DataTaken s t r stored (decide (stored ≠ v.toNat)) []

/-- R143: a write of a tag's mapping is refused with BUSY where its present mapping or the value written names a
stream that is not IDLE, and otherwise stored, clamped to 48. -/
def Obligations.TagWriteChecksThenStores : Prop :=
  ∀ (v : BitVec 64) (s : State) (g : Tag), s.inReset = false →
    s.decoder.sel = { target := .tag g, next := 0 } →
    let stored := min 48 v.toNat
    let busy := ∃ i p, (s.stream i).state ≠ .idle ∧
      (s.tags[g.val] = some (i, p) ∨ mappingNumber (some (i, p)) = stored)
    ∃ t r, exec (.tagWrite v) s = .next t ∧
      t = { s with decoder := t.decoder, tags := t.tags, status := t.status } ∧
      (busy → r = .busy) ∧ (¬busy → r = .done) ∧
      (∀ h : Tag, h ≠ g → t.tags[h.val] = s.tags[h.val]) ∧
      (r = .busy → t.tags[g.val] = s.tags[g.val]) ∧
      (r = .done → mappingNumber t.tags[g.val] = stored) ∧
      DataTaken s t r stored (decide (stored ≠ v.toNat)) []

/-- R90, R100: a disabling write is refused with BUSY while a stream that is not IDLE has the path in its active copy's
path set, and otherwise disables the path. An enabling write enables the path with result DONE, whatever else;
where no entry of the path is ELIGIBLE or due, so that its arbiter has nothing to grant, nothing else changes. -/
def Obligations.PathEnableWriteChecksUse : Prop :=
  (∀ (s : State) (p : Path), s.inReset = false →
     s.decoder.sel = { target := .path p, next := 0 } →
     let busy := ∃ i, (s.stream i).state ≠ .idle ∧
       ((s.stream i).active.pathSet = .bothAB ∨ (p = .A ∧ (s.stream i).active.pathSet = .onlyA) ∨
         (p = .B ∧ (s.stream i).active.pathSet = .onlyB))
     ∃ t r, exec (.pathEnableWrite 0) s = .next t ∧
       t = { s with decoder := t.decoder, paths := t.paths, status := t.status } ∧
       (busy → r = .busy) ∧ (¬busy → r = .done) ∧
       (∀ q, t.paths.get q =
         if q = p ∧ r = .done then { s.paths.get q with enable := false } else s.paths.get q) ∧
       DataTaken s t r 0 false []) ∧
    ∀ (v : BitVec 64) (s : State) (p : Path), s.inReset = false → v ≠ 0 →
      s.decoder.sel = { target := .path p, next := 0 } →
      ∃ t, exec (.pathEnableWrite v) s = .next t ∧ (t.paths.get p).enable = true ∧
        t.decoder.sel = { target := .path p, next := 1 } ∧ t.decoder.echo.dataResult = .done ∧
        t.decoder.echo.dataValue = 1 ∧ t.decoder.echo.dataClamped = decide (v ≠ 1) ∧
        ((∀ e ∈ s.gate.held, e.path = p → e.phase ≠ .eligible) → NoneDue s p →
          t = { s with decoder := t.decoder, paths := t.paths, status := t.status } ∧
          (∀ q, t.paths.get q = if q = p then { s.paths.get q with enable := true } else s.paths.get q) ∧
          DataTaken s t .done 1 (decide (v ≠ 1)) [])

/-- R89, R118: a DATA word directed to another field of a path's settings stores the clamped value there with result
DONE, in every state of every stream: byte time and overhead (PATH_FIELD_WRITE), lead mode and lead value
(LEAD_WRITE). -/
def Obligations.PathSettingStoresClampedValue : Prop :=
  ∀ (c : Instr) (v : BitVec 64) (s : State) (p : Path) (range : FieldRange), s.inReset = false →
    s.decoder.sel.target = .path p → 1 ≤ s.decoder.sel.next →
    pathRanges[s.decoder.sel.next]? = some range →
    (s.decoder.sel.next ≤ 2 → c = .pathFieldWrite v) → (3 ≤ s.decoder.sel.next → c = .leadWrite v) →
    ∃ (t : State) (x : PathState), exec c s = .next t ∧
      t = { s with decoder := t.decoder, paths := t.paths, status := t.status } ∧
      (∀ q, t.paths.get q =
        if q = p then
          { s.paths.get q with
            byteTime := x.byteTime, overhead := x.overhead, leadAuto := x.leadAuto, lead := x.lead }
        else s.paths.get q) ∧
      (t.paths.get p).numbers =
        (s.paths.get p).numbers.set s.decoder.sel.next (range.store v.toNat) ∧
      DataTaken s t .done (range.store v.toNat) (decide (range.store v.toNat ≠ v.toNat)) []

/-- R107, Table 6-1: a DATA word directed to a field of the reference record other than enable stores the clamped
value with result DONE; the unlock window's lowest value is the lock window, and a lock window above the
unlock window raises it. -/
def Obligations.ReferenceFieldStoresClampedValue : Prop :=
  ∀ (v : BitVec 64) (s : State), s.inReset = false → s.decoder.sel.target = .reference →
    1 ≤ s.decoder.sel.next → s.decoder.sel.next ≤ 5 → s.refRec.lockWindow ≤ 10000000 →
    let range : FieldRange :=
      [ ⟨0, 1, 1⟩, ⟨1000000, 1000000000, 1⟩, ⟨1, 1000000, 1⟩, ⟨s.refRec.lockWindow, 10000000, 1⟩
      , ⟨1000, 1000000000, 1⟩, ⟨0, 2 ^ 64 - 1, 1⟩ ].getD s.decoder.sel.next ⟨0, 0, 1⟩
    let stored := range.store v.toNat
    ∃ t, exec (.referenceFieldWrite v) s = .next t ∧
      t = { s with decoder := t.decoder, refRec := t.refRec, status := t.status } ∧
      t.refRec.numbers =
        (if s.decoder.sel.next = 2 ∧ s.refRec.unlockWindow < stored then
          (s.refRec.numbers.set 2 stored).set 3 stored
        else s.refRec.numbers.set s.decoder.sel.next stored) ∧
      DataTaken s t .done stored (decide (stored ≠ v.toNat)) []

/-- R108: a write of enable is stored with result DONE. Enable 1 in FREE with an epoch loaded enters ACQUIRING with a
deadline half an interval past the first expected pulse that is not earlier than now (R115); enable 0 takes
any other state to FREE, with rate, trim and good count 0 and no deadline; the epoch and the last-taken index
are kept. -/
def Obligations.ReferenceEnableMovesLockState : Prop :=
  ∀ (v : BitVec 64) (s : State), s.inReset = false →
    s.decoder.sel = { target := .reference, next := 0 } → 0 < s.refRec.interval →
    ∃ t, exec (.referenceEnableWrite v) s = .next t ∧
      t = { s with decoder := t.decoder, refRec := { s.refRec with enable := decide (v ≠ 0) }
                   lock := t.lock, status := t.status } ∧
      (v ≠ 0 → s.lock.state = .free → ∀ epoch, s.lock.epoch = some epoch →
        ∃ (j : Int) (d : Nat),
          t.lock = { s.lock with state := .acquiring, good := 0, deadline := some d } ∧
          (s.time.now : Int) ≤ epoch + j * s.refRec.interval ∧
          (epoch : Int) + j * s.refRec.interval < s.time.now + s.refRec.interval ∧
          (d : Int) = epoch + j * s.refRec.interval + (s.refRec.interval / 2 : Nat)) ∧
      (v ≠ 0 → (s.lock.state ≠ .free ∨ s.lock.epoch = none) → t.lock = s.lock) ∧
      (v = 0 → s.lock.state = .free → t.lock = s.lock) ∧
      (v = 0 → s.lock.state ≠ .free →
        t.lock = { s.lock with state := .free, good := 0, rate := 0, trim := 0, deadline := none }) ∧
      DataTaken s t .done (min 1 v.toNat) (decide (1 < v.toNat))
        (if t.lock.state = s.lock.state then [] else [.device])

/-- R153, R165: a write of a mask is accepted, bits outside the set's width cleared; no latched flag changes, and the
summary and the attention line follow the new masks (`WordStatus` but for the mask written). -/
def Obligations.MaskWriteMovesAttention : Prop :=
  ∀ (v : BitVec 64) (s : State), s.inReset = false → s.decoder.sel.target = .masks →
    s.decoder.sel.next ≤ 25 →
    let f := s.decoder.sel.next
    let stored := v.toNat % 2 ^ (if f < 24 then 16 else if f = 24 then 10 else 25)
    ∃ t, exec (.masksWrite v) s = .next t ∧
      t = { s with decoder := t.decoder, streams := t.streams, status := t.status } ∧
      (∀ i, t.stream i =
        if i.val = f then { s.stream i with mask := BitVec.ofNat 16 stored } else s.stream i) ∧
      t.status.mask = (if f = 24 then BitVec.ofNat 10 stored else s.status.mask) ∧
      t.status.summaryMask = (if f = 25 then BitVec.ofNat 25 stored else s.status.summaryMask) ∧
      t.status.events = wordEvents s.status.events (decide (stored ≠ v.toNat)) .done ∧
      t.status.counters = s.status.counters ∧
      t.decoder.sel = selectionAfterData s.decoder.sel ∧ t.decoder.echo.dataResult = .done ∧
      t.decoder.echo.dataValue = BitVec.ofNat 64 stored ∧
      ClosesWith s t (.echo :: if stored ≠ v.toNat then [.device] else [])

/-! ### Actions -/

/-- R154: an ACTION word with a reserved bit set or a code of 0 or above 8 is refused with FORMAT, and one whose
operand lies outside the range of Table 10-3 with INDEX; a refused action changes nothing but the command echo
record and what the Status Writer notes. -/
def Obligations.BadActionWordRefused : Prop :=
  ∀ s : State, s.inReset = false →
    (∀ w : BitVec 64, w.toNat / 65536 ≠ 0 ∨ w.toNat % 256 = 0 ∨ 8 < w.toNat % 256 →
      ∃ t, exec (.unknownActionCode w) s = .next t ∧
        ActionOnly s t (BitVec.ofNat 8 (w.toNat % 256)) (BitVec.ofNat 8 (w.toNat / 256 % 256)) .format) ∧
    ∀ (c : Instr) (code operand : BitVec 8),
      (c, code) ∈ [ (Instr.arm operand, 1#8), (Instr.stop operand, 2#8), (Instr.abort operand, 3#8)
                  , (Instr.apply operand, 4#8) ] ∧ 24 ≤ operand.toNat ∨
      (c, code) = (Instr.clearCounters operand, 5#8) ∧ 26 ≤ operand.toNat ∨
      (c, code) ∈ [ (Instr.abortAll operand, 6#8), (Instr.loadEpoch operand, 7#8)
                  , (Instr.postDevice operand, 8#8) ] ∧ 1 ≤ operand.toNat →
      ∃ t, exec c s = .next t ∧ ActionOnly s t code operand .index

/-- R10, R11: an ARM is refused with the code of the first check that fails, and a refused ARM changes nothing of
the stream's context, its records or its counters. -/
def Obligations.ArmRefusedByFirstFailingCheck : Prop :=
  ∀ (o : BitVec 8) (s : State) (i : StreamId), s.inReset = false → o.toNat = i.val →
    armResult s i ≠ .done → ∃ t, exec (.arm o) s = .next t ∧ ActionOnly s t 1 o (armResult s i)

/-- R12, with R4 to R6, R32, R51, R85, R93, R122, R129: an ARM that passes every check starts a run: the stream's
context, its segment records, the past-run marks of its held reads and echo entries are as the rules say, its
latched flags and every other stream as they were. -/
def Obligations.ArmAcceptedStartsRun : Prop :=
  ∀ (o : BitVec 8) (s : State) (i : StreamId), s.inReset = false → o.toNat = i.val →
    armResult s i = .done →
    let p := (s.stream i).staged
    let base := carveBase s.carve i.val
    let ring := (carveBase s.carve (i.val + 1) - base) / p.segsPerLine
    let fresh : Accumulator := { next := none, drop := none, head := 0 }
    let meter : Meter := { level := 0, updated := s.time.now }
    ∃ t, exec (.arm o) s = .next t ∧
      t = { s with decoder := t.decoder, streams := t.streams, segs := t.segs, gate := t.gate
                   paths := t.paths, status := t.status } ∧
      (∀ j, j ≠ i → t.stream j = s.stream j) ∧
      t.stream i =
        { s.stream i with
          state := .aligning, tArm := s.time.now, active := p, offsets := [⟨none, p.launchOffset⟩]
          pendingApply := none, first := none, fStop := none, clockNow := none, clockNext := none
          ring := ring, window := some ⟨p.windowBase, ring * p.lineStride⟩
          acc := ⟨if p.pathSet = .onlyB then none else some fresh,
                  if p.pathSet = .onlyA then none else some fresh⟩
          qHead := some 0, mismatches := ⟨0, 0⟩
          meters := ⟨if p.pathSet = .onlyB then none else some meter,
                     if p.pathSet = .onlyA then none else some meter⟩
          counters := Vector.replicate 12 0, margin := { trackers := none, alarm := false }
          echoStats := ⟨⟨none, none⟩, ⟨none, none⟩⟩ } ∧
      (∀ idx, lookupSeg t.segs idx =
        if base ≤ idx ∧ idx < base + ring * p.segsPerLine then
          { seq := BitVec.ofNat 32 ((idx - base) / p.segsPerLine), bytes := 0, writeSum := 0
            readyTime := none, released := ⟨false, false⟩ }
        else lookupSeg s.segs idx) ∧
      t.gate =
        { s.gate with
          held := s.gate.held.map fun e => if e.stream = i then { e with pastRun := true } else e } ∧
      (∀ q, t.paths.get q =
        { s.paths.get q with
          echoQueue := (s.paths.get q).echoQueue.map fun e =>
            if e.stream = i then { e with pastRun := true } else e }) ∧
      ActionEcho s t 1 o .done ∧ WordStatus s t false .done [.stream i]

/-- R15, R16, R20, R24, R84: a STOP acts according to the stream's state: refused with STATE in IDLE; to IDLE with the
unanswered reads answered with error in ALIGNING and ARMED; to DRAINING with f_stop, or on to IDLE where the
drain is already complete, in RUNNING; without effect in DRAINING; to IDLE in HALTED. -/
def Obligations.StopActsByState : Prop :=
  ∀ (o : BitVec 8) (s : State) (i : StreamId), s.inReset = false → o.toNat = i.val →
    ∃ t, exec (.stop o) s = .next t ∧
      ((s.stream i).state = .idle → ActionOnly s t 2 o .state) ∧
      ((s.stream i).state = .draining → ActionOnly s t 2 o .done) ∧
      ((s.stream i).state = .aligning ∨ (s.stream i).state = .armed →
        t = { s with decoder := t.decoder, streams := t.streams, status := t.status
                     gate := { s.gate with held := failedReads i s.gate.held } } ∧
        (∀ j, t.stream j = if j = i then idleOf (s.stream i) else s.stream j) ∧
        ActionEcho s t 2 o .done ∧ WordStatus s t false .done [.stream i]) ∧
      ((s.stream i).state = .halted →
        t = { s with decoder := t.decoder, streams := t.streams, status := t.status } ∧
        (∀ j, t.stream j = if j = i then idleOf (s.stream i) else s.stream j) ∧
        ActionEcho s t 2 o .done ∧ WordStatus s t false .done [.stream i]) ∧
      ((s.stream i).state = .running → ∀ f,
        (HighestAssigned (s.stream i) f ∨
          NoneAssigned (s.stream i) ∧ ∃ x, (s.stream i).clockNow = some x ∧ x.frame = f) →
        t = { s with decoder := t.decoder, streams := t.streams, status := t.status } ∧
        (∀ j, j ≠ i → t.stream j = s.stream j) ∧
        (DrainedThrough s i f → t.stream i = idleOf (s.stream i)) ∧
        (¬DrainedThrough s i f →
          t.stream i = { s.stream i with state := .draining, fStop := some f }) ∧
        ActionEcho s t 2 o .done ∧ WordStatus s t false .done [.stream i])

/-- R18, R20, R84: an ABORT of a stream out of IDLE takes it to IDLE with its unanswered reads answered with error;
of an IDLE stream it has no effect; the result is DONE either way. ABORT_ALL performs ABORT on each of the 24
streams, and leaves every table, counter, the time base and the reference lock as they are. -/
def Obligations.AbortTakesStreamsToIdle : Prop :=
  (∀ (o : BitVec 8) (s : State) (i : StreamId), s.inReset = false → o.toNat = i.val →
     ∃ t, exec (.abort o) s = .next t ∧
       ((s.stream i).state = .idle → ActionOnly s t 3 o .done) ∧
       ((s.stream i).state ≠ .idle →
         t = { s with decoder := t.decoder, streams := t.streams, status := t.status
                      gate := { s.gate with held := failedReads i s.gate.held } } ∧
         (∀ j, t.stream j = if j = i then idleOf (s.stream i) else s.stream j) ∧
         ActionEcho s t 3 o .done ∧ WordStatus s t false .done [.stream i])) ∧
    ∀ s : State, s.inReset = false →
      ∃ t, exec (.abortAll 0) s = .next t ∧
        t = { s with
              decoder := t.decoder, streams := t.streams, status := t.status
              gate :=
                { s.gate with
                  held := s.gate.held.map fun e =>
                    if (s.stream e.stream).state ≠ .idle ∧ e.phase ≠ .forwarded then failedRead e else e } } ∧
        (∀ j, t.stream j = if (s.stream j).state = .idle then s.stream j else idleOf (s.stream j)) ∧
        ActionEcho s t 6 0 .done ∧
        WordStatus s t false .done
          (((List.finRange 24).filter fun j => decide ((s.stream j).state ≠ .idle)).map RecordId.stream)

/-- R7, R42: an APPLY is refused with STATE in IDLE and with BUSY while the offset schedule holds 8 entries; otherwise
the class L fields of the staged record become the pending-apply record, marked for the frame after the
highest in which a position has been assigned, for f0 where none has, and for the first frame in ALIGNING. It
changes no held read and nothing of the active copy. -/
def Obligations.ApplyTakesLiveFields : Prop :=
  ∀ (o : BitVec 8) (s : State) (i : StreamId), s.inReset = false → o.toNat = i.val →
    let p := (s.stream i).staged
    ∃ t, exec (.apply o) s = .next t ∧
      ((s.stream i).state = .idle → ActionOnly s t 4 o .state) ∧
      ((s.stream i).state ≠ .idle → 8 ≤ (s.stream i).offsets.length → ActionOnly s t 4 o .busy) ∧
      ((s.stream i).state ≠ .idle → (s.stream i).offsets.length < 8 →
        t = { s with decoder := t.decoder, streams := t.streams, status := t.status } ∧
        (∃ frame : Option Nat,
          (∀ j, t.stream j =
            if j = i then
              { s.stream i with
                pendingApply := some
                  { frame := frame
                    live := { launchOffset := p.launchOffset, classOne := p.classOne, policy := p.policy
                              fillWord := p.fillWord, meterDepth := p.meterDepth, lateLimit := p.lateLimit
                              marginThreshold := p.marginThreshold
                              marginHysteresis := p.marginHysteresis } } }
            else s.stream j) ∧
          ((s.stream i).state = .aligning → frame = none) ∧
          ((s.stream i).state ≠ .aligning → ∀ f, HighestAssigned (s.stream i) f → frame = some (f + 1)) ∧
          ((s.stream i).state ≠ .aligning → NoneAssigned (s.stream i) →
            frame = (s.stream i).first.map (·.frame))) ∧
        ActionEcho s t 4 o .done ∧ WordStatus s t false .done [.stream i])

/-- R155: CLEAR_COUNTERS sets to 0 the counters its operand names and queues the records that show them; POST_DEVICE
queues the device record, which keeps its place where it is already pending. Both are DONE in every state, and
no flag, statistic, tracker or queue is touched. -/
def Obligations.ClearCountersAndPostDevice : Prop :=
  (∀ (o : BitVec 8) (s : State), s.inReset = false → o.toNat ≤ 25 →
    ∃ t, exec (.clearCounters o) s = .next t ∧
      t = { s with decoder := t.decoder, streams := t.streams, status := t.status } ∧
      (∀ j, t.stream j =
        if j.val = o.toNat ∨ o.toNat = 25 then { s.stream j with counters := Vector.replicate 12 0 }
        else s.stream j) ∧
      ActionEcho s t 5 o .done ∧
      StatusBecomes s t s.status.events
        (if 24 ≤ o.toNat then Vector.replicate 8 0 else s.status.counters)
        (.echo :: (if 24 ≤ o.toNat then [.device] else []) ++
          ((List.finRange 24).filter fun j => decide (j.val = o.toNat ∨ o.toNat = 25)).map
            RecordId.stream)) ∧
    ∀ s : State, s.inReset = false →
      ∃ t, exec (.postDevice 0) s = .next t ∧ t = { s with decoder := t.decoder, status := t.status } ∧
        ActionEcho s t 8 0 .done ∧ WordStatus s t false .done [.device]

/-- R108, R115: LOAD_EPOCH loads the epoch with the next pulse time, forgets the last-taken index and the good count,
and moves the lock state: FREE with enable 1 and LOCKED enter ACQUIRING, LOCKED latching UNLOCKED (bit 1); in
ACQUIRING, and at an entry into it, the deadline is half an interval past the first expected pulse that is not
earlier than now; HOLDOVER and FREE with enable 0 stay. -/
def Obligations.LoadEpochMovesLockState : Prop :=
  ∀ s : State, s.inReset = false → 0 < s.refRec.interval →
    let loaded : RefLock := { s.lock with epoch := some s.refRec.nextPulse, lastIndex := none, good := 0 }
    let starts := s.lock.state = .acquiring ∨ s.lock.state = .locked ∨
      (s.lock.state = .free ∧ s.refRec.enable = true)
    ∃ t, exec (.loadEpoch 0) s = .next t ∧ t = { s with decoder := t.decoder, lock := t.lock, status := t.status } ∧
      (¬starts → t.lock = loaded) ∧
      (starts → ∃ (j : Int) (d : Nat), t.lock = { loaded with state := .acquiring, deadline := some d } ∧
        (s.time.now : Int) ≤ s.refRec.nextPulse + j * s.refRec.interval ∧
        (s.refRec.nextPulse : Int) + j * s.refRec.interval < s.time.now + s.refRec.interval ∧
        (d : Int) = s.refRec.nextPulse + j * s.refRec.interval + (s.refRec.interval / 2 : Nat)) ∧
      ActionEcho s t 7 0 .done ∧
      StatusBecomes s t (if s.lock.state = .locked then s.status.events ||| 2#10 else s.status.events)
        s.status.counters (.echo :: if t.lock.state = s.lock.state then [] else [.device])

/-! ### The events of a stream -/

/-- R25, R26, R72: the completion of ALIGN. f0 is the smallest frame that starts not earlier than t_arm plus the arming
lead, advanced by one where its first launch would lie before now; f0 and the frame clock's next record are
fixed with T_f0 and frem0 exact. The stream is ARMED, or HALTED by the reads it held, none of which stays
UNASSIGNED; in ARMED each path has assigned one position for each such read, from (f0, 0) on. With no such
read, every accumulator stands at (f0, 0), the offset schedule's first entry and a record marked for the first
frame take f0, and nothing else changes. -/
def Obligations.AlignFixesFirstFrame : Prop :=
  ∀ (s : State) (i : StreamId) (offset : Nat), s.inReset = false → (s.stream i).state = .aligning →
    (s.stream i).offsets = [⟨none, offset⟩] → 0 < (s.stream i).active.num → 0 < (s.stream i).active.den →
    let p := (s.stream i).active
    let x := (s.stream i).tArm + p.armingLead
    let held := fun (q : Path) (e : HeldRead) => e.stream = i ∧ e.path = q ∧ e.phase = .unassigned
    ∃ t f, exec (.alignCompletion i) s = .next t ∧ (∀ g, x ≤ g * p.num / p.den ↔ f ≤ g) ∧
      (let f0 := if f * p.num / p.den + offset < s.time.now then f + 1 else f
       let clock : FrameRec := { frame := f0, start := f0 * p.num / p.den, rem := f0 * p.num % p.den }
       let origin : NextPos := { frame := clock, n := 0, spacing := 0, rem := 0 }
       (t.stream i).first = some ⟨f0, f0 * p.num / p.den⟩ ∧ (t.stream i).clockNext = some clock ∧
       ((t.stream i).state = .armed ∨ (t.stream i).state = .halted) ∧
       (HeldTableRight s → RunStateRight s → UnansweredOnAir s →
         (∀ e ∈ t.gate.held, e.stream = i → e.phase ≠ .unassigned) ∧
         ((t.stream i).state = .armed → ∀ q a, (t.stream i).acc.get q = some a →
           a.next = some ((posStep p)^[s.gate.held.countP fun e => decide (held q e)] origin))) ∧
       ((∀ q, ∀ e ∈ s.gate.held, ¬held q e) → NothingToGrant s →
         t = { s with streams := t.streams, status := t.status } ∧
         (∀ j, t.stream j =
           if j = i then
             { s.stream i with
               state := .armed, first := some ⟨f0, f0 * p.num / p.den⟩, clockNext := some clock
               acc := ⟨(s.stream i).acc.a.map fun a => { a with next := some origin },
                 (s.stream i).acc.b.map fun a => { a with next := some origin }⟩
               offsets := [⟨some f0, offset⟩]
               pendingApply := (s.stream i).pendingApply.map fun r =>
                 { r with frame := match r.frame with | none => some f0 | some g => some g } }
           else s.stream j) ∧
         StatusBecomes s t s.status.events s.status.counters [.stream i]))

/-- R14, R21 to R23: a frame start, taken once the time base has reached the next record's start. The current record
takes the next, the next is stepped by one frame and stays exact, the frame is counted and the stream record
queued; the first, taken in ARMED, also enters RUNNING and latches STARTED (bit 0). -/
def Obligations.FrameStartStepsClock : Prop :=
  ∀ (c : Instr) (s : State) (i : StreamId) (f : Nat), s.inReset = false →
    let p := (s.stream i).active
    let clock := fun g : Nat => (⟨g, g * p.num / p.den, g * p.num % p.den⟩ : FrameRec)
    ((s.stream i).state = .armed ∧ c = .firstFrameStart i ∨
      ((s.stream i).state = .running ∨ (s.stream i).state = .draining) ∧ c = .frameStart i) →
    0 < p.den → (s.stream i).clockNext = some (clock f) → f * p.num / p.den ≤ s.time.now →
    ∃ t, exec c s = .next t ∧ t = { s with streams := t.streams, status := t.status } ∧
      (∀ j, t.stream j =
        if j = i then
          { s.stream i with
            clockNow := some (clock f), clockNext := some (clock (f + 1))
            counters := bump (s.stream i).counters 0
            state := if (s.stream i).state = .armed then .running else (s.stream i).state
            events := if (s.stream i).state = .armed then (s.stream i).events ||| 1#16
                      else (s.stream i).events }
        else s.stream j) ∧
      StatusBecomes s t s.status.events s.status.counters [.stream i]

/-- R17, R20, R24, R84: the drain timeout, taken in DRAINING once the time base has reached the start of frame
f_stop + 1 plus the late limit: the stream's unanswered reads are answered with error, DRAIN_TIMEOUT (bit 15) is
latched, and the stream goes to IDLE. -/
def Obligations.DrainTimeoutEndsDrain : Prop :=
  ∀ (s : State) (i : StreamId) (f : Nat), s.inReset = false → (s.stream i).state = .draining →
    (s.stream i).fStop = some f →
    (f + 1) * (s.stream i).active.num / (s.stream i).active.den + (s.stream i).active.lateLimit ≤ s.time.now →
    ∃ t, exec (.drainTimeout i) s = .next t ∧
      t = { s with streams := t.streams, status := t.status
                   gate := { s.gate with held := failedReads i s.gate.held } } ∧
      (∀ j, t.stream j =
        if j = i then
          idleOf { s.stream i with events := (s.stream i).events ||| 32768#16 }
        else s.stream j) ∧
      StatusBecomes s t s.status.events s.status.counters [.stream i]

/-! ### The send port and the held-read table -/

/-- R68: a request presented while the table holds 48 entries waits, and begins a stall episode, latched (bit 5) and
counted once; while an episode is in progress, nothing changes. -/
def Obligations.FullTableStallsSendPort : Prop :=
  ∀ (c : Instr) (tag : Tag) (addr : Addr) (acc : Access) (s : State), s.inReset = false →
    c = .stall ∨ c = .sendRequest tag addr acc → 48 ≤ s.gate.held.length →
    ∃ t, exec c s = .next t ∧
      t = { s with gate := { s.gate with stalled := true }, status := t.status } ∧
      (s.gate.stalled = false →
        StatusBecomes s t (s.status.events ||| 32#10) (bump s.status.counters 0) [.device]) ∧
      (s.gate.stalled = true → StatusBecomes s t s.status.events s.status.counters [])

/-- R144 to R146: a send-port request that is not gated is forwarded: every write, every read with an unmapped tag,
and every read with a mapped tag whose address is no segment start of its stream's window. It joins the ready
requests of the send forwarder behind all but the released reads that became ready at the same instant. Such a
read with a mapped tag that touches an active window is a stray, latched (bit 13) and counted for its tag's
stream; nothing else changes. Two clauses are the model's choice: the instant is counted in oscillator time
(notes/assumptions/9.md), and the bytes of a read are counted on past address 2^40 (notes/assumptions/11.md). -/
def Obligations.UngatedSendRequestForwarded : Prop :=
  ∀ (tag : Tag) (addr : Addr) (acc : Access) (s : State), s.inReset = false →
    s.gate.held.length < 48 →
    (s.ports.sendReady.filter fun y => match y.body with | .pass _ => true | .released _ => false).length < 64 →
    (∀ len, acc = .read len → ∀ i p, s.tags[tag.val] = some (i, p) →
      (s.stream i).segmentStart addr.toNat = none ∨ (s.stream i).state = .idle ∨
        ¬inSet (s.stream i).active.pathSet p) →
    let stray := fun i => ∃ len p, acc = .read len ∧ s.tags[tag.val] = some (i, p) ∧
      ∃ j w x, ((s.stream j).state = .aligning ∨ (s.stream j).state = .armed ∨
          (s.stream j).state = .running ∨ (s.stream j).state = .draining) ∧
        (s.stream j).window = some w ∧ w.base ≤ x ∧ x < w.base + w.len ∧
        addr.toNat ≤ x ∧ x < addr.toNat + len
    ∃ t, exec (.sendRequest tag addr acc) s = .next t ∧
      t = { s with
            streams := t.streams, status := t.status
            ports := { s.ports with sendReady := t.ports.sendReady } } ∧
      JoinsReady { readyAt := s.time.osc, body := .pass { tag := tag, addr := addr, acc := acc } }
        s.ports.sendReady t.ports.sendReady ∧
      ((∀ i, ¬stray i) → t.streams = s.streams ∧
        StatusBecomes s t s.status.events s.status.counters []) ∧
      (∀ i, stray i →
        (∀ j, t.stream j =
          if j = i then
            { s.stream i with
              events := (s.stream i).events ||| 8192#16, counters := bump (s.stream i).counters 11 }
          else s.stream j) ∧
        StatusBecomes s t s.status.events s.status.counters [.stream i])

/-- R34, R69, R70: a gated read that is given no position. In ALIGNING it is held in phase UNASSIGNED; in HALTED it is
answered with error, and nothing is latched or counted; in DRAINING with its path's next position past f_stop it
is surplus: answered with error, DROP (bit 5) latched, the surplus count incremented, the accumulator as it
was. -/
def Obligations.GatedReadWithoutPosition : Prop :=
  ∀ (tag : Tag) (addr : Addr) (len : Nat) (s : State) (i : StreamId) (p : Path) (j k : Nat),
    s.inReset = false → s.gate.held.length < 48 → s.ports.passCount < 64 →
    GatedAt s tag addr.toNat i p j k → NothingToGrant s →
    let e := newEntry s tag addr len i p j k
    let surplus := (s.stream i).state = .draining ∧
      ∃ f a np, (s.stream i).fStop = some f ∧ (s.stream i).acc.get p = some a ∧ a.next = some np ∧
        f < np.frame.frame
    ((s.stream i).state = .aligning ∨ (s.stream i).state = .halted ∨ surplus) →
    (∀ x ∈ s.gate.held, x.ticket ≠ s.gate.nextTicket) →
    ∃ t, exec (.sendRequest tag addr (.read len)) s = .next t ∧
      t = { s with
            streams := t.streams, status := t.status
            gate :=
              { s.gate with
                nextTicket := s.gate.nextTicket + 1
                held := s.gate.held ++
                  [if (s.stream i).state = .aligning then e else failedRead e] } } ∧
      (surplus →
        (∀ m, t.stream m =
          if m = i then
            { s.stream i with
              events := (s.stream i).events ||| 32#16, counters := bump (s.stream i).counters 6 }
          else s.stream m) ∧
        StatusBecomes s t s.status.events s.status.counters [.stream i]) ∧
      (¬surplus → t.streams = s.streams ∧ StatusBecomes s t s.status.events s.status.counters [])

/-- R6, R29, R30, R33, R37, R69, R71: a gated read whose position is not given up, and that neither takes a
pending-apply record nor halts its stream, takes it. The entry carries the position's frame, line and segment,
its launch time (frame start, offset in force, spacing and skew) and its release time (launch time less the
path's lead, 0 where that is less); it is WAITING where its release time lies ahead, and otherwise ELIGIBLE or
further. The accumulator advances by one position. A read whose slot and segment are the position's clears its
path's mismatch count, whatever it was; another latches SEQUENCE (bit 9), is counted, and raises it. A release
time earlier than now latches LATE (bit 4) and is counted. The offset schedule loses its first entry where every
path has now been assigned a position of a frame not earlier than the second's. -/
def Obligations.GatedReadTakesPosition : Prop :=
  ∀ (tag : Tag) (addr : Addr) (len : Nat) (s : State) (i : StreamId) (p : Path) (j k : Nat)
    (a : Accumulator) (np : NextPos),
    s.inReset = false → s.gate.held.length < 48 → s.ports.passCount < 64 →
    GatedAt s tag addr.toNat i p j k → HeldTableRight s →
    ((s.stream i).state = .armed ∨ (s.stream i).state = .running ∨
      (s.stream i).state = .draining ∧ ∃ f, (s.stream i).fStop = some f ∧ np.frame.frame ≤ f) →
    (s.stream i).acc.get p = some a → a.next = some np →
    (∀ r, (s.stream i).pendingApply = some r → r.frame ≠ some np.frame.frame) →
    let st := s.stream i
    let line := (np.frame.frame - (st.first.map (·.frame)).getD 0) * st.active.activeLines +
      np.n / st.active.segsPerLine
    let launch := np.frame.start + offsetFor st.offsets np.frame.frame + np.spacing +
      (if p = .B then st.active.skewB else 0)
    let release := launch - (s.paths.get p).lead
    let matched := j = line % st.ring ∧ k = np.n % st.active.segsPerLine
    let after := fun q => if q = p then some (posStep st.active np) else st.nextOf q
    (matched ∨ st.mismatches.get p < 7) →
    a.drop ≠ some np.frame.frame → st.qHead.getD 0 ≤ line → s.time.now ≤ release + st.active.lateLimit →
    ∃ t e, exec (.sendRequest tag addr (.read len)) s = .next t ∧ e ∈ t.gate.held ∧
      t.gate.held.map (·.ticket) = s.gate.held.map (·.ticket) ++ [s.gate.nextTicket] ∧
      t.gate.nextTicket = s.gate.nextTicket + 1 ∧
      e.ticket = s.gate.nextTicket ∧ e.stream = i ∧ e.path = p ∧ e.tag = tag ∧ e.addr = addr ∧
      e.len = len ∧
      e.assigned = some
        { frame := np.frame.frame, n := np.n, line := line, seg := np.n % st.active.segsPerLine
          launch := launch, release := release, matched := decide matched } ∧
      (s.time.now < release → e.phase = .waiting) ∧
      (release ≤ s.time.now → e.phase = .eligible ∨ e.phase = .forwarded) ∧
      (t.stream i).counters[4] =
        (if release < s.time.now then min 4294967295 (st.counters[4] + 1) else st.counters[4]) ∧
      (release < s.time.now → (t.stream i).events.getLsbD 4 = true) ∧
      (s.time.now < release → NothingToGrant s →
        t = { s with streams := t.streams, gate := t.gate, status := t.status } ∧
        t.gate.held = s.gate.held ++ [e] ∧
        (∀ m, m ≠ i → t.stream m = s.stream m) ∧
        t.stream i =
          { st with
            mismatches := st.mismatches.set p (if matched then 0 else st.mismatches.get p + 1)
            events := if matched then st.events else st.events ||| 512#16
            counters := if matched then st.counters else bump st.counters 10
            acc := (t.stream i).acc, qHead := (t.stream i).qHead, offsets := (t.stream i).offsets } ∧
        (t.stream i).nextOf p = some (posStep st.active np) ∧
        (∀ x g v rest, st.offsets = x :: ⟨some g, v⟩ :: rest →
          (AssignedFrom st after g → (t.stream i).offsets = ⟨some g, v⟩ :: rest) ∧
          (¬AssignedFrom st after g → (t.stream i).offsets = st.offsets)) ∧
        (st.offsets.length ≤ 1 → (t.stream i).offsets = st.offsets) ∧
        StatusBecomes s t s.status.events s.status.counters (if matched then [] else [.stream i]))

/-- R16, R35, R36, R70, R83: a gated read of an ARMED, RUNNING or DRAINING stream whose position is given up. Its line
is earlier than q_head, or its release time is earlier than now less the late limit (which starts drop mode for
the frame and latches SLIP, bit 6), or drop mode is set for its frame: it is answered with error, DROP (bit 5)
is latched, the dropped count is incremented, and the accumulator advances all the same. The position is
consumed, and where that completes a drain the stream goes to IDLE. -/
def Obligations.GatedReadDropped : Prop :=
  ∀ (tag : Tag) (addr : Addr) (len : Nat) (s : State) (i : StreamId) (p : Path) (j k : Nat)
    (a : Accumulator) (np : NextPos),
    s.inReset = false → s.gate.held.length < 48 → s.ports.passCount < 64 →
    GatedAt s tag addr.toNat i p j k → HeldTableRight s → NothingToGrant s →
    ((s.stream i).state = .armed ∨ (s.stream i).state = .running ∨
      (s.stream i).state = .draining ∧ ∃ f, (s.stream i).fStop = some f ∧ np.frame.frame ≤ f) →
    (s.stream i).acc.get p = some a → a.next = some np →
    (∀ r, (s.stream i).pendingApply = some r → r.frame ≠ some np.frame.frame) →
    let st := s.stream i
    let line := (np.frame.frame - (st.first.map (·.frame)).getD 0) * st.active.activeLines +
      np.n / st.active.segsPerLine
    let launch := np.frame.start + offsetFor st.offsets np.frame.frame + np.spacing +
      (if p = .B then st.active.skewB else 0)
    let release := launch - (s.paths.get p).lead
    let inDrop := a.drop = some np.frame.frame
    let passed := line < st.qHead.getD 0
    let slips := release + st.active.lateLimit < s.time.now ∧ ¬passed ∧ ¬inDrop
    let ends := DrainEnds st s.gate.held i fun q =>
      if q = p then some (posStep st.active np) else st.nextOf q
    let events := (st.events ||| (if slips then 64#16 else 0#16)) ||| 32#16
    inDrop ∨ passed ∨ slips →
    ∃ t, exec (.sendRequest tag addr (.read len)) s = .next t ∧
      t = { s with
            streams := t.streams, status := t.status
            gate :=
              { s.gate with
                nextTicket := s.gate.nextTicket + 1
                held := s.gate.held ++ [failedRead (newEntry s tag addr len i p j k)] } } ∧
      (∀ m, m ≠ i → t.stream m = s.stream m) ∧
      (ends → t.stream i =
        { idleOf { st with events := events, counters := bump st.counters 5 } with
          offsets := (t.stream i).offsets }) ∧
      (¬ends →
        t.stream i =
          { st with
            events := events, counters := bump st.counters 5
            acc := (t.stream i).acc, qHead := (t.stream i).qHead, offsets := (t.stream i).offsets } ∧
        (t.stream i).nextOf p = some (posStep st.active np) ∧
        ((t.stream i).acc.get p).map (·.drop) = some
          (if np.n + 1 = st.active.activeLines * st.active.segsPerLine then none
           else if slips then some np.frame.frame else a.drop)) ∧
      StatusBecomes s t s.status.events s.status.counters [.stream i]

/-- R19, R71, R72, R84: the eighth mismatch in a row of a stream-path, made by a read whose position is not given up. The
stream enters HALTED in the same event, and no entry of it stays unanswered, on either path. Where nothing
else happens in the event, every unanswered entry and the read itself are answered with error, SEQUENCE (bit
9) and HALTED (bit 2) are latched, the sequence count goes up, f_stop is discarded, and the accumulator has
advanced. -/
def Obligations.EighthMismatchHalts : Prop :=
  ∀ (tag : Tag) (addr : Addr) (len : Nat) (s : State) (i : StreamId) (p : Path) (j k : Nat)
    (a : Accumulator) (np : NextPos),
    s.inReset = false → s.gate.held.length < 48 → s.ports.passCount < 64 →
    GatedAt s tag addr.toNat i p j k → HeldTableRight s →
    ((s.stream i).state = .armed ∨ (s.stream i).state = .running ∨
      (s.stream i).state = .draining ∧ ∃ f, (s.stream i).fStop = some f ∧ np.frame.frame ≤ f) →
    (s.stream i).acc.get p = some a → a.next = some np → (s.stream i).pendingApply = none →
    (s.stream i).mismatches.get p = 7 →
    let st := s.stream i
    let line := (np.frame.frame - (st.first.map (·.frame)).getD 0) * st.active.activeLines +
      np.n / st.active.segsPerLine
    let launch := np.frame.start + offsetFor st.offsets np.frame.frame + np.spacing +
      (if p = .B then st.active.skewB else 0)
    let release := launch - (s.paths.get p).lead
    a.drop ≠ some np.frame.frame → st.qHead.getD 0 ≤ line → s.time.now ≤ release + st.active.lateLimit →
    (j ≠ line % st.ring ∨ k ≠ np.n % st.active.segsPerLine) →
    ∃ t, exec (.sendRequest tag addr (.read len)) s = .next t ∧ (t.stream i).state = .halted ∧
      (t.stream i).fStop = none ∧ (t.stream i).mismatches.get p = 8 ∧
      (∀ e ∈ t.gate.held, e.stream = i → e.phase = .forwarded) ∧
      (s.time.now < release → NothingToGrant s →
        t = { s with streams := t.streams, gate := t.gate, status := t.status } ∧
        t.gate =
          { s.gate with
            nextTicket := s.gate.nextTicket + 1
            held := failedReads i s.gate.held ++
              [failedRead
                { newEntry s tag addr len i p j k with
                  assigned := some
                    { frame := np.frame.frame, n := np.n, line := line, seg := np.n % st.active.segsPerLine
                      launch := launch, release := release, matched := false } }] } ∧
        (∀ m, m ≠ i → t.stream m = s.stream m) ∧
        t.stream i =
          { st with
            state := .halted, fStop := none, mismatches := st.mismatches.set p 8
            events := st.events ||| 512#16 ||| 4#16, counters := bump st.counters 10
            acc := (t.stream i).acc, qHead := (t.stream i).qHead, offsets := (t.stream i).offsets } ∧
        (t.stream i).nextOf p = some (posStep st.active np) ∧
        StatusBecomes s t s.status.events s.status.counters [.stream i])

/-- R6, R8, R97: the first position of frame f_apply is assigned. The record is taken, whatever is then judged of the read: it
becomes absent, its class, fill policy, fill word, meter depth, late limit, margin threshold and margin
hysteresis stand in the active copy, the offset schedule ends with (f_apply, its launch offset), and APPLIED
(bit 14) is latched. The position itself, where it is not given up under the new late limit, has its launch
time from the new offset. Every ELIGIBLE entry of the stream is tested with the new depth, here with both paths
busy so that none is granted: it has its new permit time, and one that was permitted and no longer is, is
deferred (notes/assumptions/17.md), which latches DEFERRED (bit 10). -/
def Obligations.ApplyTakenAtItsFrame : Prop :=
  ∀ (tag : Tag) (addr : Addr) (len : Nat) (s : State) (i : StreamId) (p : Path) (j k : Nat)
    (a : Accumulator) (np : NextPos) (r : PendingApply),
    s.inReset = false → s.gate.held.length < 48 → s.ports.passCount < 64 →
    GatedAt s tag addr.toNat i p j k → HeldTableRight s →
    ((s.stream i).state = .armed ∨ (s.stream i).state = .running ∨
      (s.stream i).state = .draining ∧ ∃ f, (s.stream i).fStop = some f ∧ np.frame.frame ≤ f) →
    (s.stream i).acc.get p = some a → a.next = some np →
    (s.stream i).pendingApply = some r → r.frame = some np.frame.frame →
    let st := s.stream i
    let line := (np.frame.frame - (st.first.map (·.frame)).getD 0) * st.active.activeLines +
      np.n / st.active.segsPerLine
    let launch := np.frame.start + r.live.launchOffset + np.spacing + (if p = .B then st.active.skewB else 0)
    let release := launch - (s.paths.get p).lead
    ∃ t, exec (.sendRequest tag addr (.read len)) s = .next t ∧ (t.stream i).pendingApply = none ∧
      (t.stream i).active =
        { st.active with
          launchOffset := (t.stream i).active.launchOffset, classOne := r.live.classOne
          policy := r.live.policy, fillWord := r.live.fillWord, meterDepth := r.live.meterDepth
          lateLimit := r.live.lateLimit, marginThreshold := r.live.marginThreshold
          marginHysteresis := r.live.marginHysteresis } ∧
      (t.stream i).offsets.getLast? = some ⟨some np.frame.frame, r.live.launchOffset⟩ ∧
      (t.stream i).events.getLsbD 14 = true ∧
      (a.drop ≠ some np.frame.frame → st.qHead.getD 0 ≤ line →
        s.time.now ≤ release + r.live.lateLimit →
        ∃ e ∈ t.gate.held, e.ticket = s.gate.nextTicket ∧ e.assigned = some
          { frame := np.frame.frame, n := np.n, line := line, seg := np.n % st.active.segsPerLine
            launch := launch, release := release
            matched := decide (j = line % st.ring ∧ k = np.n % st.active.segsPerLine) }) ∧
      ((∀ q, s.time.now < (s.paths.get q).busyUntil) → st.mismatches.get p < 7 → 0 < st.active.gapD →
        ∀ x ∈ s.gate.held, x.stream = i → x.phase = .eligible →
          let forbidden := fun q : Nat => q ≠ s.time.now ∧ ∃ u, x.permit = some u ∧ u ≤ s.time.now
          ∃ q y, FirstPermitted (st.levelAt x.path s.time.now) st.active.gapD
              ((r.live.meterDepth - 1) * st.active.gapG) s.time.now q ∧
            y ∈ t.gate.held ∧ y = { x with permit := some q, deferred := y.deferred } ∧
            (y.deferred = true ↔ x.deferred = true ∨ forbidden q) ∧
            (forbidden q → (t.stream i).events.getLsbD 10 = true))

/-- R73, R95, R96, R100: a WAITING entry whose release time has come, no other of its path being due. On a path that
is busy or disabled, or where its meter forbids it and no other entry of the path is eligible for grant, it becomes
ELIGIBLE and nothing is granted: its permit time is now where its meter permits it, and otherwise the first
instant at which the level, draining D units a nanosecond, reaches the allowance of (depth − 1) × G; an entry so
deferred latches DEFERRED (bit 10) and is counted. On a free path with no other entry ELIGIBLE it is granted in
the same event where its meter permits it. -/
def Obligations.ReleaseTimeMakesEligible : Prop :=
  ∀ (s : State) (e : HeldRead) (m : Meter), s.inReset = false → HeldTableRight s → e ∈ s.gate.held →
    e.phase = .waiting → (∃ a, e.assigned = some a ∧ a.release ≤ s.time.now) →
    (∀ x ∈ s.gate.held, x.path = e.path → x.phase = .waiting → x ≠ e →
      ∃ a, x.assigned = some a ∧ s.time.now < a.release) →
    (s.stream e.stream).meters.get e.path = some m → 0 < (s.stream e.stream).active.gapD →
    let st := s.stream e.stream
    let path := s.paths.get e.path
    let level := fun t : Nat => (m.level : Int) - st.active.gapD * ((t : Int) - m.updated)
    let allowance : Int := ((st.active.meterDepth - 1) * st.active.gapG : Nat)
    m.updated ≤ s.time.now →
    ∃ t, exec (.releaseTimeReached e.ticket) s = .next t ∧
      (s.time.now < path.busyUntil ∨ path.enable = false ∨
          allowance < level s.time.now ∧ (∀ x, EligibleForGrant s x → x.path ≠ e.path) →
        ∃ permit,
          t = { s with
                streams := t.streams, status := t.status
                gate :=
                  { s.gate with
                    held := s.gate.held.map fun x =>
                      if x.ticket = e.ticket then
                        { e with phase := .eligible, permit := some permit
                                 deferred := decide (permit ≠ s.time.now) }
                      else x } } ∧
          s.time.now ≤ permit ∧ level permit ≤ allowance ∧
          (∀ u, s.time.now ≤ u → u < permit → allowance < level u) ∧
          (permit = s.time.now → t.streams = s.streams ∧
            StatusBecomes s t s.status.events s.status.counters []) ∧
          (permit ≠ s.time.now →
            (∀ j, t.stream j =
              if j = e.stream then
                { st with events := st.events ||| 1024#16, counters := bump st.counters 9 }
              else s.stream j) ∧
            StatusBecomes s t s.status.events s.status.counters [.stream e.stream])) ∧
      (path.enable = true → path.busyUntil ≤ s.time.now → level s.time.now ≤ allowance →
        (∀ x ∈ s.gate.held, x.path = e.path → x.phase ≠ .eligible) →
        ∃ y ∈ t.gate.held, y.ticket = e.ticket ∧ y.phase = .forwarded ∧ y.outcome.isSome = true)

/-- R16, R59, R74, R75, R79, R82, R83, R91, R94 to R96, R100, R102, R121, R130, R147: an entry that is alone eligible
for grant on its path, no other of it being due, of a stream that is ARMED, RUNNING or DRAINING, with sequence
MATCH and its record holding its line READY, is granted NORMAL when its permit time or its path's freedom is
reached. It is FORWARDED with the write sum as snapshot, awaiting memory; its path joins the record's released
set; the path is busy for a packet's wire time and remembers the stream as its class's last winner; the meter is
charged with G, and the other ELIGIBLE entries of the stream-path are tested again; the released count of the
path goes up; an echo entry is pushed, the oldest being lost at a full queue; on the stream's first path the time
since the record became READY is a margin sample; the read enters the send forwarder, behind the fill writes
accounted before it, and where it is ready at once the instant is counted in oscillator time, the model's choice
(notes/assumptions/9.md); and where the consumption completes a drain the stream goes to IDLE. -/
def Obligations.NormalGrantHandsOn : Prop :=
  ∀ (c : Instr) (s : State) (e : HeldRead) (a : Assigned) (r : SegRecord), s.inReset = false →
    HeldTableRight s → EligibleForGrant s e → NoneDue s e.path →
    (∀ x, EligibleForGrant s x → x.path = e.path → x = e) →
    (c = .pathFree e.path ∨ c = .permitTimeReached e.ticket) →
    ((s.stream e.stream).state = .armed ∨ (s.stream e.stream).state = .running ∨
      (s.stream e.stream).state = .draining) →
    e.assigned = some a → a.matched = true →
    let st := s.stream e.stream
    let x := s.paths.get e.path
    let idx := carveBase s.carve e.stream.val + a.line % st.ring * st.active.segsPerLine + a.seg
    let ends := DrainEnds st (s.gate.held.filter fun y => decide (y.ticket ≠ e.ticket)) e.stream st.nextOf
    let first := e.path = .A ∧ inSet st.active.pathSet .A ∨ e.path = .B ∧ ¬inSet st.active.pathSet .A
    lookupSeg s.segs idx = r → r.seq = BitVec.ofNat 32 a.line → r.bytes = st.active.segLen →
    0 < st.active.segLen → 0 < x.byteTime → 0 < st.active.gapD →
    ∃ t y, exec c s = .next t ∧
      t = { s with
            streams := t.streams, segs := t.segs, gate := { s.gate with held := t.gate.held }
            paths := t.paths, ports := t.ports, status := t.status } ∧
      y ∈ t.gate.held ∧ t.gate.held.map (·.ticket) = s.gate.held.map (·.ticket) ∧
      y = { e with phase := .forwarded, outcome := some .normal, snapshot := some r.writeSum, permit := none
                   deferred := false, answer := .awaited } ∧
      (∀ k, lookupSeg t.segs k =
        if k = idx then { r with released := r.released.set e.path true } else lookupSeg s.segs k) ∧
      (∀ q, q ≠ e.path → t.paths.get q = s.paths.get q) ∧
      t.paths.get e.path =
        { x with
          busyUntil := s.time.now + ((st.active.segLen + x.overhead) * x.byteTime + 999) / 1000
          lastWinner0 := if st.active.classOne then x.lastWinner0 else e.stream
          lastWinner1 := if st.active.classOne then e.stream else x.lastWinner1
          echoQueue := (if x.echoQueue.length < 32 then x.echoQueue else x.echoQueue.tail) ++
            [{ tag := e.tag, stream := e.stream, launch := a.launch, pastRun := false }] } ∧
      (∀ j, j ≠ e.stream → t.stream j = s.stream j) ∧
      (ends → ∃ u, t.stream e.stream = idleOf u) ∧
      (¬ends → (t.stream e.stream).state = st.state ∧
        (t.stream e.stream).meters.get e.path =
          some { level := st.levelAt e.path s.time.now + st.active.gapG, updated := s.time.now }) ∧
      ChargeRetests s t e ∧
      (let released : Fin 12 := if e.path = .A then 1 else 2
       (t.stream e.stream).counters[released.val] = min 4294967295 (st.counters[released.val] + 1)) ∧
      (t.stream e.stream).counters[3] = st.counters[3] ∧
      (¬first ∨ r.readyTime = none → (t.stream e.stream).margin = st.margin) ∧
      (∀ ready, first → r.readyTime = some ready →
        (t.stream e.stream).margin =
          ((s.marginSample e.stream (min 2147483647 (s.time.now - ready))).stream e.stream).margin) ∧
      EntersSendForwarder s t
        { ticket := e.ticket, tag := e.tag, addr := e.addr, len := e.len, path := e.path
          grantTime := s.time.now } ∧
      t.status.events =
        (if x.echoQueue.length < 32 then s.status.events else s.status.events ||| 64#10)

/-- R16, R59, R74 to R78, R82, R83: the same grant where the read is an underrun (sequence MISMATCH, or its record not
holding its line READY), by the fill policy of the active copy at the grant: STALE goes to memory unchecked,
PATTERN is answered with the fill word repeated, least significant byte first, ERROR with an error response. That
this holds also of a position assigned before an APPLY, as R75 says and R42 seems to deny, is the model's choice
(notes/assumptions/24.md); so is the count in oscillator time of the instant at which a STALE read is ready at once
(notes/assumptions/9.md). UNDERRUN (bit 3) is latched
and counted, and no snapshot is taken; an ERROR grant leaves the path's busy-until, its echo queue and the meter
as they were. The record changes by Table 3-4: of the line but not READY, its released set gains the path; of
another line where the line is one of the R from q_head on, it is re-armed with the path alone released;
otherwise, and for a mismatched read, it is untouched. -/
def Obligations.UnderrunGrantFollowsPolicy : Prop :=
  ∀ (c : Instr) (s : State) (e : HeldRead) (a : Assigned) (r : SegRecord), s.inReset = false →
    HeldTableRight s → EligibleForGrant s e → NoneDue s e.path →
    (∀ x, EligibleForGrant s x → x.path = e.path → x = e) →
    (c = .pathFree e.path ∨ c = .permitTimeReached e.ticket) →
    ((s.stream e.stream).state = .armed ∨ (s.stream e.stream).state = .running ∨
      (s.stream e.stream).state = .draining) →
    e.assigned = some a →
    let st := s.stream e.stream
    let x := s.paths.get e.path
    let idx := carveBase s.carve e.stream.val + a.line % st.ring * st.active.segsPerLine + a.seg
    let ends := DrainEnds st (s.gate.held.filter fun y => decide (y.ticket ≠ e.ticket)) e.stream st.nextOf
    let q := st.qHead.getD 0
    let policy := st.active.policy
    let holdsLine := r.seq = BitVec.ofNat 32 a.line
    let inRing := q ≤ a.line ∧ a.line ≤ q + st.ring - 1
    lookupSeg s.segs idx = r → (a.matched = false ∨ ¬holdsLine ∨ r.bytes ≠ st.active.segLen) →
    0 < st.active.segLen → 0 < x.byteTime → 0 < st.active.gapD →
    ∃ t y, exec c s = .next t ∧ y ∈ t.gate.held ∧
      y.ticket = e.ticket ∧ y.phase = .forwarded ∧ y.snapshot = none ∧
      (a.matched = false → t.segs = s.segs) ∧
      (∀ k, k ≠ idx → lookupSeg t.segs k = lookupSeg s.segs k) ∧
      (a.matched = true → lookupSeg t.segs idx =
        if holdsLine then { r with released := r.released.set e.path true }
        else if inRing then
          { seq := BitVec.ofNat 32 a.line, bytes := 0, writeSum := 0, readyTime := none
            released := (⟨false, false⟩ : PathPair Bool).set e.path true }
        else r) ∧
      (ends → ∃ u, t.stream e.stream = idleOf u) ∧
      (¬ends → (t.stream e.stream).state = st.state) ∧
      (t.stream e.stream).events.getLsbD 3 = true ∧
      (t.stream e.stream).counters[3] = min 4294967295 (st.counters[3] + 1) ∧
      (t.stream e.stream).margin = st.margin ∧
      (policy = .stale → y.outcome = some .underrunStale ∧ y.answer = .awaited ∧
        EntersSendForwarder s t
          { ticket := e.ticket, tag := e.tag, addr := e.addr, len := e.len, path := e.path
            grantTime := s.time.now }) ∧
      (policy = .pattern → y.outcome = some .underrunPattern ∧ t.ports = s.ports ∧
        ∃ d, y.answer = .returning (.data d) ∧ d.length = e.len ∧
          ∀ n, n < e.len → d[n]? = some (st.active.fillWord.extractLsb' (8 * (n % 4)) 8)) ∧
      (policy = .error → y.outcome = some .underrunError ∧ y.answer = .returning .error ∧
        t.ports = s.ports ∧ (t.paths.get e.path).busyUntil = x.busyUntil ∧
        (t.paths.get e.path).echoQueue = x.echoQueue ∧
        (¬ends → (t.stream e.stream).meters = st.meters)) ∧
      (policy ≠ .error →
        (t.paths.get e.path).busyUntil =
          s.time.now + ((st.active.segLen + x.overhead) * x.byteTime + 999) / 1000 ∧
        ChargeRetests s t e ∧
        (¬ends → (t.stream e.stream).meters.get e.path =
          some { level := st.levelAt e.path s.time.now + st.active.gapG, updated := s.time.now }))

/-- R73, R99 to R101: the arbiter's choice. First, among the entries eligible for grant on a path it chooses one
whenever there is one: by the earliest release time; then class 1 before class 0; then the first stream after the
class's last winner, wrapping from 23 to 0, that winner's own stream last; then the earliest arrival. Second,
what a path that is enabled and free does when it becomes free, or a permit time or a release time of one of its
entries is reached: of all its entries that are ELIGIBLE with their permit time reached, or due and permitted
(notes/assumptions/25.md), the first by that order is granted, and where its grant returns data no other entry of
the path is answered in the event. -/
def Obligations.ArbiterChoosesByReleaseTime : Prop :=
  (∀ (s : State) (p : Path), HeldTableRight s →
     ((∃ x, EligibleForGrant s x ∧ x.path = p) → ∃ e, s.winner p = some e) ∧
     ∀ e, s.winner p = some e → EligibleForGrant s e ∧ e.path = p ∧
       ∀ x, EligibleForGrant s x → x.path = p → GrantedFirst s p e x) ∧
    ∀ (c : Instr) (s : State) (p : Path), s.inReset = false → HeldTableRight s → UnansweredOnAir s →
      (s.paths.get p).enable = true → (s.paths.get p).busyUntil ≤ s.time.now →
      (∀ x ∈ s.gate.held, 0 < (s.stream x.stream).active.gapD) →
      (c = .pathFree p ∨ ∃ k ∈ s.gate.held, k.path = p ∧
        (k.phase = .eligible ∧ c = .permitTimeReached k.ticket ∨
          k.phase = .waiting ∧ k.release ≤ s.time.now ∧ c = .releaseTimeReached k.ticket)) →
      (∃ x, ReadyToGo s p x) →
      ∃ e t y, ReadyToGo s p e ∧ (∀ x, ReadyToGo s p x → GrantedFirst s p e x) ∧ exec c s = .next t ∧
        y ∈ t.gate.held ∧ y.ticket = e.ticket ∧ y.phase = .forwarded ∧ y.outcome.isSome = true ∧
        (y.outcome ≠ some .underrunError → 0 < (s.stream e.stream).active.segLen →
          0 < (s.paths.get p).byteTime →
          ∀ x ∈ s.gate.held, x.ticket ≠ e.ticket → x.phase ≠ .forwarded →
            ∃ z ∈ t.gate.held, z.ticket = x.ticket ∧ z.phase ≠ .forwarded)

/-- R79 to R81: memory's answer to a released read is handed to the send port unchanged, the entry staying until it
has been returned in full. CHECK (bit 8) is latched and counted exactly where a NORMAL read of length L or more,
its past-run mark clear, brings data whose first L bytes do not sum to the snapshot modulo 2^32; that this is said
of data of any length, also of fewer bytes than the read, is the model's choice (notes/assumptions/18.md). -/
def Obligations.ReleasedReadReturnChecksSum : Prop :=
  ∀ (s : State) (n : Nat) (r : Response) (q : Released) (e : HeldRead), s.inReset = false →
    HeldTableRight s → s.ports.atMemory[n]? = some (.released q) → e ∈ s.gate.held → e.ticket = q.ticket →
    let st := s.stream e.stream
    let fails := e.outcome = some .normal ∧ e.pastRun = false ∧ st.active.segLen ≤ e.len ∧
      ∃ d snap, r = .data d ∧ e.snapshot = some snap ∧
        BitVec.ofNat 32 ((d.take st.active.segLen).map BitVec.toNat).sum ≠ snap
    ∃ t, exec (.releasedReadReturn n r) s = .next t ∧
      t = { s with
            streams := t.streams, status := t.status
            ports := { s.ports with atMemory := s.ports.atMemory.eraseIdx n }
            gate :=
              { s.gate with
                held := s.gate.held.map fun x =>
                  if x.ticket = e.ticket then { e with answer := .returning r } else x } } ∧
      (fails →
        (∀ j, t.stream j =
          if j = e.stream then { st with events := st.events ||| 256#16, counters := bump st.counters 8 }
          else s.stream j) ∧
        StatusBecomes s t s.status.events s.status.counters [.stream e.stream]) ∧
      (¬fails → t.streams = s.streams ∧ StatusBecomes s t s.status.events s.status.counters [])

/-- R65, R67, R68, R79: a FORWARDED entry whose answer has been returned in full leaves the table, its answer going
unchanged to the request that made the read; a stall episode ends with a table of fewer than 48. -/
def Obligations.AnswerCompleteFreesEntry : Prop :=
  ∀ (s : State) (e : HeldRead) (r : Response), s.inReset = false → HeldTableRight s → e ∈ s.gate.held →
    e.phase = .forwarded → e.answer = .returning r →
    ∃ t, exec (.answerComplete e.ticket) s = .next t ∧
      t = { s with
            status := t.status
            gate := { held := s.gate.held.erase e, stalled := false, nextTicket := s.gate.nextTicket }
            ports :=
              { s.ports with
                sendOut := some ⟨{ tag := e.tag, addr := e.addr, acc := .read e.len }, r⟩ } } ∧
      StatusBecomes s t s.status.events s.status.counters []

/-! ### The Margin Monitor and the Echo Unit -/

/-- R131 to R134: a margin sample m. The first sets F = S = m; a later one moves F down to m or up by a sixteenth of
the distance, and S by a 1024th of it, toward zero, unless the alarm was raised before the sample. The alarm is
then judged against the new F: raised below the threshold (MARGIN_LOW, bit 11), cleared at threshold plus
hysteresis (MARGIN_OK, bit 12). -/
def Obligations.MarginSampleMovesTrackersThenAlarm : Prop :=
  ∀ (s : State) (i : StreamId) (m : Nat), m ≤ 2147483647 →
    let st := s.stream i
    let th := st.active.marginThreshold
    let hy := st.active.marginHysteresis
    ∃ F S, ((s.marginSample i m).stream i).margin.trackers = some ⟨F, S⟩ ∧
      (st.margin.trackers = none → F = m ∧ S = m) ∧
      (∀ f v, st.margin.trackers = some ⟨f, v⟩ →
        (m < f → F = m) ∧ (f ≤ m → F = f + (m - f) / 16) ∧
        (st.margin.alarm = true → S = v) ∧
        (st.margin.alarm = false → (S : Int) = v + ((m : Int) - v).tdiv 1024) ∧
        (f ≤ 2147483647 → v ≤ 2147483647 → F ≤ 2147483647 ∧ S ≤ 2147483647)) ∧
      (((s.marginSample i m).stream i).margin.alarm = true ↔
        F < if st.margin.alarm then th + hy else th) ∧
      ((s.marginSample i m).stream i).events =
        (if st.margin.alarm = false ∧ F < th then st.events ||| 2048#16
         else if st.margin.alarm = true ∧ th + hy ≤ F then st.events ||| 4096#16
         else st.events) ∧
      ∀ j, j ≠ i → (s.marginSample i m).stream j = s.stream j

/-- R123, R125 to R128: an echo strobe. With an unmapped tag it is ignored. With a mapped tag that no entry of the
path's queue carries it is a stray, latched (bit 7) and counted. Otherwise the oldest entry of the tag is
paired: the older ones are lost, latched (bit 6) and counted one by one; the clamped launch error is folded into
the path's statistics, into the stream's unless the entry is of a past run, and in AUTO moves the lead by an
eighth of it, toward zero, within 0 to 50,000 ns. -/
def Obligations.EchoStrobePairsOldestOfTag : Prop :=
  ∀ (s : State) (p : Path) (g : Tag), s.inReset = false →
    let x := s.paths.get p
    let lost : Fin 8 := if p = .A then 1 else 2
    let strays : Fin 8 := if p = .A then 3 else 4
    ∃ t, exec (.echoStrobe p g) s = .next t ∧
      t = { s with streams := t.streams, paths := t.paths, status := t.status } ∧
      (∀ q, q ≠ p → t.paths.get q = s.paths.get q) ∧
      (s.tags[g.val] = none → t.streams = s.streams ∧ t.paths = s.paths ∧
        StatusBecomes s t s.status.events s.status.counters []) ∧
      (s.tags[g.val] ≠ none → (∀ e ∈ x.echoQueue, e.tag ≠ g) →
        t.streams = s.streams ∧ t.paths = s.paths ∧
        StatusBecomes s t (s.status.events ||| 128#10) (bump s.status.counters strays) [.device]) ∧
      (∀ older e younger, s.tags[g.val] ≠ none → x.echoQueue = older ++ e :: younger → e.tag = g →
        (∀ y ∈ older, y.tag ≠ g) →
        let err : Int := max (-2147483647) (min 2147483647 ((s.time.now : Int) - e.launch))
        let fold := fun (r : ErrRange) =>
          (⟨some (match r.min with | none => err | some v => min err v),
            some (match r.max with | none => err | some v => max err v)⟩ : ErrRange)
        t.paths.get p =
          { x with
            echoQueue := younger, lastError := some err, errRange := fold x.errRange
            lead := if x.leadAuto then (max 0 (min 50000 ((x.lead : Int) + err.tdiv 8))).toNat
                    else x.lead } ∧
        (∀ j, t.stream j =
          if j = e.stream ∧ e.pastRun = false then
            { s.stream j with
              echoStats := (s.stream j).echoStats.set p (fold ((s.stream j).echoStats.get p)) }
          else s.stream j) ∧
        StatusBecomes s t
          (if older = [] then s.status.events else s.status.events ||| 64#10)
          ((fun v => bump v lost)^[older.length] s.status.counters)
          (if older = [] then [] else [.device]))

/-! ### The Reference Lock -/

/-- R110 to R116: a REF edge. In FREE nothing changes. In ACQUIRING, LOCKED or HOLDOVER the pulse index is that of the nearest expected pulse,
so that the error lies within half an interval. A repeated index is a duplicate: latched (bit 4) and counted,
nothing else. Otherwise index, error and deadline are set. In ACQUIRING, with every stream IDLE, an expected
value in range and an error above the step threshold, the time base and each path's busy-until are stepped and
STEPPED (bit 3) is latched. In every other case trim and rate take the PI update, and the pulse is judged: four
good pulses lock (LOCKED, bit 0), an error past the unlock window unlocks (UNLOCKED, bit 1), and HOLDOVER goes
to ACQUIRING. -/
def Obligations.PulseCorrectsAndIsJudged : Prop :=
  (∀ s : State, s.inReset = false → s.lock.state = .free →
    ∃ t, exec .refPulse s = .next t ∧ t = { s with status := t.status } ∧
      StatusBecomes s t s.status.events s.status.counters []) ∧
  ∀ (s : State) (epoch : Nat), s.inReset = false → s.lock.state ≠ .free → s.lock.epoch = some epoch →
    0 < s.refRec.interval → s.lock.good ≤ 3 →
    let ref := s.refRec
    let counted := bump s.status.counters 5
    ∃ t, ∃ k e err : Int, exec .refPulse s = .next t ∧
      t = { s with time := t.time, paths := t.paths, lock := t.lock, status := t.status } ∧
      e = epoch + k * ref.interval ∧ err = s.time.now - e ∧
      -(ref.interval : Int) ≤ 2 * err ∧ 2 * err < ref.interval ∧
      let ppb := max (-1000000) (min 1000000 ((err * 1000000000).tdiv ref.interval))
      let trim := max (-200000) (min 200000 (s.lock.trim - ppb.tdiv 16))
      let rate := max (-200000) (min 200000 (trim - ppb.tdiv 2))
      let seen : RefLock :=
        { s.lock with lastIndex := some k, lastError := err
                      deadline := some (e + ref.interval + (ref.interval / 2 : Nat)).toNat }
      let pulled : RefLock := { seen with trim := trim, rate := rate }
      let steps := s.lock.state = .acquiring ∧ (ref.stepThreshold : Int) < |err| ∧
        (∀ i, (s.stream i).state = .idle) ∧ 0 ≤ e ∧ e ≤ 2 ^ 64 - 1
      (s.lock.lastIndex = some k → t.time = s.time ∧ t.paths = s.paths ∧ t.lock = s.lock ∧
        StatusBecomes s t (s.status.events ||| 16#10) (bump counted 6) [.device]) ∧
      (s.lock.lastIndex ≠ some k → steps →
        t.time = { s.time with now := e.toNat } ∧
        (∀ q, t.paths.get q =
          { s.paths.get q with
            busyUntil := (((s.paths.get q).busyUntil : Int) - err).toNat }) ∧
        t.lock = { seen with good := 0 } ∧
        StatusBecomes s t (s.status.events ||| 8#10) counted [.device]) ∧
      (s.lock.lastIndex ≠ some k → ¬steps → t.time = s.time ∧ t.paths = s.paths ∧
        (s.lock.state = .acquiring → |err| ≤ ref.lockWindow → s.lock.good = 3 →
          t.lock = { pulled with state := .locked, good := 0 } ∧
          StatusBecomes s t (s.status.events ||| 1#10) counted [.device]) ∧
        (s.lock.state = .acquiring → |err| ≤ ref.lockWindow → s.lock.good < 3 →
          t.lock = { pulled with good := s.lock.good + 1 } ∧
          StatusBecomes s t s.status.events counted [.device]) ∧
        (s.lock.state = .acquiring → (ref.lockWindow : Int) < |err| →
          t.lock = { pulled with good := 0 } ∧ StatusBecomes s t s.status.events counted [.device]) ∧
        (s.lock.state = .locked → (ref.unlockWindow : Int) < |err| →
          t.lock = { pulled with state := .acquiring, good := 0 } ∧
          StatusBecomes s t (s.status.events ||| 2#10) counted [.device]) ∧
        (s.lock.state = .locked → |err| ≤ ref.unlockWindow →
          t.lock = pulled ∧ StatusBecomes s t s.status.events counted [.device]) ∧
        (s.lock.state = .holdover →
          t.lock = { pulled with state := .acquiring, good := 0 } ∧
          StatusBecomes s t s.status.events counted [.device]))

/-- R115: the pulse timeout, taken in ACQUIRING or LOCKED once the time base has reached the pulse deadline: HOLDOVER
is entered and latched (bit 2), the rate becomes the integral trim, the good count 0 and the deadline absent. -/
def Obligations.PulseTimeoutEntersHoldover : Prop :=
  ∀ (s : State) (d : Nat), s.inReset = false → (s.lock.state = .acquiring ∨ s.lock.state = .locked) →
    s.lock.deadline = some d → d ≤ s.time.now →
    ∃ t, exec .pulseTimeout s = .next t ∧
      t = { s with status := t.status
                   lock := { s.lock with state := .holdover, good := 0, rate := s.lock.trim
                                         deadline := none } } ∧
      StatusBecomes s t (s.status.events ||| 4#10) s.status.counters [.device]

/-! ### The fill port, the memory port and the Status Writer -/

/-- R140, R146: a fill-port request that is no command write and touches no payload byte of an active window is placed
in the fill forwarder, and nothing else changes; a read that covers a whole event word is marked
read-to-clear. -/
def Obligations.PlainFillRequestForwarded : Prop :=
  ∀ (addr : Addr) (acc : Access) (s : State), s.inReset = false → s.ports.fillForwarder.length < 64 →
    (∀ d n, acc = .write d → n < d.length →
      (∀ off ∈ [0, 8, 16], addr.toNat + n < s.straps.toNat * 65536 + off ∨
        s.straps.toNat * 65536 + off + 8 ≤ addr.toNat + n) ∧
      ∀ i j k, ¬PayloadByte s i (addr.toNat + n) j k) →
    ∃ cls, exec (.fillRequest addr acc) s = .next
        { s with
          ports := { s.ports with
            fillForwarder := s.ports.fillForwarder ++ [{ addr := addr, acc := acc, cls := cls }] } } ∧
      (cls = .readToClear ∨ cls = .pass) ∧
      (cls = .readToClear ↔ ∃ len r, acc = .read len ∧ CoversEventWord s addr.toNat len r)

/-- R138, R141: a fill-port write that touches the command words, wherever it begins and ends. The three words are
come to in increasing address order, each with the state that the one before it left: one that the write covers
whole is taken as its command with the 8 bytes it carries, one that it touches otherwise, from its front, its end
or its middle, as a partial word. The write is then placed in the fill forwarder as a command write. These are
the model's choices: each word is an event of its own, so that the records it queues stand before those of the
next (notes/assumptions/21.md); a DATA or ACTION word is taken by any row of such a word (2.md); its bytes are read
least significant first (26.md); and bytes past address 2^40 are counted on (11.md). -/
def Obligations.CommandWordsTakenInOrder : Prop :=
  ∀ (s : State) (addr : Addr) (d : List Byte), s.inReset = false → s.ports.fillForwarder.length < 64 →
    (∃ w, addr.toNat < s.straps.toNat * 65536 + wordOffset w + 8 ∧
      s.straps.toNat * 65536 + wordOffset w < addr.toNat + d.length) → d ≠ [] →
    ∃ t1 t2 t3, WordTaken addr.toNat d .select s t1 ∧ WordTaken addr.toNat d .data t1 t2 ∧
      WordTaken addr.toNat d .action t2 t3 ∧
      exec (.fillRequest addr (.write d)) s = .next
        { t3 with
          ports := { t3.ports with
            fillForwarder := t3.ports.fillForwarder ++
              [{ addr := addr, acc := .write d, cls := .command }] } }

/-- R53 to R58, R140: a fill write with payload bytes in active windows. First, of one segment: the write belongs to
the line, among the R from q_head on, that lives in the slot; a record of another line is re-armed for it; the
bytes are counted up to L and their values summed modulo 2^32; the ready time is set when the count reaches L; and
a write for a line already released on some path is TORN, latched (bit 7) and counted. No other record changes.
Second, of any bytes, over several segments, gaps and windows: every segment of every active window is accounted
so for its own bytes of the write, each stream counts the segments that were TORN, and no record changes of which
the write has no byte. -/
def Obligations.FillWriteAccounted : Prop :=
  (∀ (addr : Addr) (d : List Byte) (s : State) (i : StreamId) (j k v line : Nat), s.inReset = false →
      s.ports.fillForwarder.length < 64 → WindowsApart s →
      let st := s.stream i
      let p := st.active
      (st.state = .aligning ∨ st.state = .armed ∨ st.state = .running ∨ st.state = .draining) →
      p.segsPerLine * p.segStride ≤ p.lineStride → p.segLen ≤ p.segStride → j < st.ring →
      k < p.segsPerLine → 0 < d.length → v + d.length ≤ p.segLen →
      addr.toNat = p.windowBase + j * p.lineStride + k * p.segStride + v →
      st.qHead.getD 0 ≤ line → line < st.qHead.getD 0 + st.ring → line % st.ring = j →
      let idx := carveBase s.carve i.val + j * p.segsPerLine + k
      let old := lookupSeg s.segs idx
      let found : SegRecord :=
        if old.seq = BitVec.ofNat 32 line then old
        else { seq := BitVec.ofNat 32 line, bytes := 0, writeSum := 0, readyTime := none
               released := ⟨false, false⟩ }
      let new : SegRecord :=
        { found with
          bytes := min p.segLen (found.bytes + d.length)
          writeSum := found.writeSum + BitVec.ofNat 32 (d.map BitVec.toNat).sum
          readyTime := if found.bytes < p.segLen ∧ p.segLen ≤ found.bytes + d.length then some s.time.now
                       else found.readyTime }
      let torn := found.released ≠ ⟨false, false⟩
      ∃ t, exec (.fillRequest addr (.write d)) s = .next t ∧
        t = { s with
              segs := t.segs, streams := t.streams, status := t.status
              ports := { s.ports with
                fillForwarder := s.ports.fillForwarder ++
                  [{ addr := addr, acc := .write d, cls := .accounted }] } } ∧
        (∀ n, lookupSeg t.segs n = if n = idx then new else lookupSeg s.segs n) ∧
        (torn →
          (∀ m, t.stream m =
            if m = i then { st with events := st.events ||| 128#16, counters := bump st.counters 7 }
            else s.stream m) ∧
          StatusBecomes s t s.status.events s.status.counters [.stream i]) ∧
        (¬torn → t.streams = s.streams ∧ StatusBecomes s t s.status.events s.status.counters [])) ∧
    ∀ (addr : Addr) (d : List Byte) (s : State), s.inReset = false → s.ports.fillForwarder.length < 64 →
      WindowsApart s → CarveAscending s → RingsRight s →
      (∀ n, n < d.length → ∀ off ∈ [0, 8, 16], addr.toNat + n < s.straps.toNat * 65536 + off ∨
        s.straps.toNat * 65536 + off + 8 ≤ addr.toNat + n) →
      let active := fun i : StreamId => (s.stream i).state = .aligning ∨ (s.stream i).state = .armed ∨
        (s.stream i).state = .running ∨ (s.stream i).state = .draining
      let mine := fun (i : StreamId) j k => bytesInSegment (s.stream i).active addr.toNat d j k
      let idx := fun (i : StreamId) j k =>
        carveBase s.carve i.val + j * (s.stream i).active.segsPerLine + k
      let segment := fun (i : StreamId) j k =>
        active i ∧ j < (s.stream i).ring ∧ k < (s.stream i).active.segsPerLine ∧ mine i j k ≠ []
      (∃ i j k, segment i j k) →
      ∃ t queued, exec (.fillRequest addr (.write d)) s = .next t ∧
        t = { s with
              segs := t.segs, streams := t.streams, status := t.status
              ports := { s.ports with
                fillForwarder := s.ports.fillForwarder ++
                  [{ addr := addr, acc := .write d, cls := .accounted }] } } ∧
        (∀ i j k, segment i j k → lookupSeg t.segs (idx i j k) =
          recordAfter
            (recordFound (lookupSeg s.segs (idx i j k))
              (lineInSlot ((s.stream i).qHead.getD 0) (s.stream i).ring j))
            (s.stream i).active.segLen (mine i j k) s.time.now) ∧
        (∀ n, (∀ i j k, segment i j k → n ≠ idx i j k) → lookupSeg t.segs n = lookupSeg s.segs n) ∧
        (∀ i, active i → 0 < tornCount s i addr.toNat d →
          t.stream i =
            { s.stream i with
              events := (s.stream i).events ||| 128#16
              counters := (fun v => bump v 7)^[tornCount s i addr.toNat d] (s.stream i).counters }) ∧
        (∀ i, ¬(active i ∧ 0 < tornCount s i addr.toNat d) → t.stream i = s.stream i) ∧
        (∀ r, r ∈ queued ↔ ∃ i, r = .stream i ∧ active i ∧ 0 < tornCount s i addr.toNat d) ∧
        StatusBecomes s t s.status.events s.status.counters queued

/-- R146, R147: the memory port takes the head request of the first waiting source after the last-granted one, in the
rotation fill, send, status. A released read that waits for fill writes accounted before its grant becomes
ready when the last of them has been granted, at the instant counted in oscillator time (notes/assumptions/9.md);
such reads join the ready requests in the order of R146. -/
def Obligations.MemoryPortGrantsInRotation : Prop :=
  ∀ s : State, s.inReset = false →
    let x := s.ports
    let body := fun b : SendBody =>
      match b with | .pass r => MemRequest.send r | .released r => MemRequest.released r
    ∃ t, exec .memoryPortGrant s = .next t ∧ t = { s with ports := t.ports, status := t.status } ∧
      StatusBecomes s t s.status.events s.status.counters [] ∧
      (nextGranted x = none → t.ports = x) ∧
      (∀ r rest, nextGranted x = some .fill → x.fillForwarder = r :: rest →
        t.ports =
          { x with
            lastGranted := .fill, fillForwarder := rest, atMemory := x.atMemory ++ [.fill r]
            sendReady := t.ports.sendReady
            sendBlocked := (x.sendBlocked.filter fun b => 1 < b.wait).map fun b =>
              { b with wait := b.wait - 1 } } ∧
        JoinReady ((x.sendBlocked.filter fun b => b.wait ≤ 1).map fun b =>
          { readyAt := s.time.osc, body := .released b.read }) x.sendReady t.ports.sendReady) ∧
      (∀ r rest, nextGranted x = some .send → x.sendReady = r :: rest →
        t.ports =
          { x with
            lastGranted := .send, sendReady := rest, atMemory := x.atMemory ++ [body r.body] }) ∧
      (∀ r, nextGranted x = some .status → x.statusSource = some r →
        t.ports =
          { x with
            lastGranted := .status, statusSource := none, atMemory := x.atMemory ++ [.posting r] })

/-- R148: an answer of memory goes unchanged to the request that made it: on the fill port, on the send port, or to
the Status Writer, which does nothing with it; an error answer to a read-to-clear read clears nothing; an
answer without a request is discarded. -/
def Obligations.MemoryAnswerReturned : Prop :=
  ∀ (s : State) (n : Nat) (r : Response), s.inReset = false →
    (∀ q, s.ports.atMemory[n]? ≠ some (.released q)) →
    (∀ f d, s.ports.atMemory[n]? = some (.fill f) → r = .data d → f.cls ≠ .readToClear) →
    ∃ t, exec (.memoryAnswer n r) s = .next t ∧
      t = { s with status := t.status
                   ports := { s.ports with
                     atMemory := s.ports.atMemory.eraseIdx n, fillOut := t.ports.fillOut
                     sendOut := t.ports.sendOut } } ∧
      StatusBecomes s t s.status.events s.status.counters [] ∧
      t.ports.fillOut =
        (match s.ports.atMemory[n]? with
          | some (.fill f) => some ⟨f, r⟩
          | _ => s.ports.fillOut) ∧
      t.ports.sendOut =
        (match s.ports.atMemory[n]? with
          | some (.send q) => some ⟨q, r⟩
          | _ => s.ports.sendOut)

/-- R142, R164: the data of a read-to-clear read, as long as the read. From the latched set of each record whose event word the read
covered whole, exactly the flags that the returned word shows are cleared, and the record is queued; the data
goes unchanged to the fill port; the attention line follows. -/
def Obligations.ReadToClearClearsShownFlags : Prop :=
  ∀ (s : State) (n : Nat) (f : FillItem) (d : List Byte), s.inReset = false →
    s.ports.atMemory[n]? = some (.fill f) → f.cls = .readToClear → d.length = f.acc.len →
    let covers := CoversEventWord s f.addr.toNat f.acc.len
    let shown := wordShown s f.addr.toNat d
    ∃ t queued, exec (.readToClear n (.data d)) s = .next t ∧
      t = { s with
            streams := t.streams, status := t.status
            ports := { s.ports with
              atMemory := s.ports.atMemory.eraseIdx n, fillOut := some ⟨f, .data d⟩ } } ∧
      (∀ i, covers (.stream i) → t.stream i =
        { s.stream i with
          events := (s.stream i).events &&& ~~~(BitVec.ofNat 16 (shown (.stream i))) }) ∧
      (∀ i, ¬covers (.stream i) → t.stream i = s.stream i) ∧
      (covers .device →
        t.status.events = s.status.events &&& ~~~(BitVec.ofNat 10 (shown .device))) ∧
      (¬covers .device → t.status.events = s.status.events) ∧
      (∀ r, r ∈ queued ↔ covers r) ∧
      t.status.counters = s.status.counters ∧ t.status.mask = s.status.mask ∧
      t.status.summaryMask = s.status.summaryMask ∧ ClosesWith s t queued

/-- R125, R126, R162: the Status Writer takes the oldest pending record while the status source is empty: the record
leaves the set, and one write of its content, 64 or 128 bytes at its offset, stands in the source. Posting the
device record sets each path's minimum and maximum launch error to "no sample", posting a stream record the
stream's. -/
def Obligations.OldestRecordPosted : Prop :=
  ∀ (s : State) (r : RecordId) (rest : List RecordId), s.inReset = false → s.ports.statusSource = none →
    s.status.updates = r :: rest →
    ∃ t posted, exec .statusPosting s = .next t ∧
      t = { s with
            streams := t.streams, paths := t.paths
            status := { s.status with updates := rest }
            ports := { s.ports with statusSource := some posted } } ∧
      posted.record = r ∧ posted.bytes = s.recordContent r ∧
      posted.addr = s.straps.toNat * 65536 +
        (match r with
          | .summary => 0x1000
          | .device => 0x1040
          | .echo => 0x10C0
          | .stream i => 0x1100 + 0x80 * i.val) ∧
      posted.bytes.length = (match r with | .summary => 64 | .echo => 64 | .device => 128 | .stream _ => 128) ∧
      (∀ i, t.stream i =
        if r = .stream i then
          { s.stream i with echoStats := ⟨⟨none, none⟩, ⟨none, none⟩⟩ }
        else s.stream i) ∧
      (∀ p, t.paths.get p =
        if r = .device then { s.paths.get p with errRange := ⟨none, none⟩ } else s.paths.get p)

/-- R157, Tables 10-5 to 10-8: what the posted records show, field by field; the bytes not listed are 0. -/
def Obligations.RecordsShowState : Prop :=
  ∀ (s : State) (i : StreamId), CountersBounded s → (s.stream i).ring ≤ 12288 → s.gate.held.length ≤ 48 →
    LeadsBounded s → s.time.now < 2 ^ 64 → SelectionInRange s → s.decoder.echo.dataKind < 256 →
    s.decoder.echo.dataIndex < 256 → s.decoder.echo.dataField < 256 →
    let st := s.stream i
    let zeroAt := fun (record : List Byte) (lo hi : Nat) => ∀ n, lo ≤ n → n < hi → record[n]? = some 0#8
    let stream := s.recordContent (.stream i)
    let device := s.recordContent .device
    let summary := s.recordContent .summary
    let echo := s.recordContent .echo
    (fieldAt stream 0x00 8 = st.events.toNat ∧
      fieldAt stream 0x08 4 = (match st.state with
        | .idle => 0 | .aligning => 1 | .armed => 2 | .running => 3 | .draining => 4 | .halted => 5) ∧
      fieldAt stream 0x0C 4 = st.ring ∧
      (∀ x, st.clockNow = some x → x.frame < 2 ^ 64 → fieldAt stream 0x10 8 = x.frame) ∧
      (st.clockNow = none → fieldAt stream 0x10 8 = 0) ∧
      (∀ k : Fin 12, fieldAt stream (0x18 + 4 * k.val) 4 = st.counters[k.val]) ∧
      (st.margin.trackers = none → fieldAt stream 0x48 4 = 0xFFFFFFFF ∧ fieldAt stream 0x4C 4 = 0xFFFFFFFF) ∧
      (∀ f v, st.margin.trackers = some ⟨f, v⟩ → f < 2 ^ 32 → v < 2 ^ 32 →
        fieldAt stream 0x48 4 = f ∧ fieldAt stream 0x4C 4 = v) ∧
      fieldAt stream 0x50 4 = (if st.margin.alarm then 1 else 0) ∧
      fieldAt stream 0x58 4 = signedNumber st.echoStats.a.min ∧
      fieldAt stream 0x5C 4 = signedNumber st.echoStats.a.max ∧
      fieldAt stream 0x60 4 = signedNumber st.echoStats.b.min ∧
      fieldAt stream 0x64 4 = signedNumber st.echoStats.b.max ∧
      zeroAt stream 0x54 0x58 ∧ zeroAt stream 0x68 0x80) ∧
    (fieldAt device 0x00 8 = s.status.events.toNat ∧ fieldAt device 0x08 8 = s.time.now ∧
      fieldAt device 0x10 4 = (match s.lock.state with
        | .free => 0 | .acquiring => 1 | .locked => 2 | .holdover => 3) ∧
      fieldAt device 0x14 4 = s.gate.held.length ∧
      fieldAt device 0x18 4 = signedNumber (some s.lock.rate) ∧
      fieldAt device 0x1C 4 = signedNumber (some s.lock.trim) ∧
      fieldAt device 0x20 4 = signedNumber (some s.lock.lastError) ∧
      fieldAt device 0x24 4 =
        (if s.paths.a.leadAuto then 1 else 0) + (if s.paths.b.leadAuto then 2 else 0) ∧
      fieldAt device 0x28 4 = s.paths.a.lead ∧ fieldAt device 0x2C 4 = s.paths.b.lead ∧
      fieldAt device 0x30 4 = signedNumber s.paths.a.lastError ∧
      fieldAt device 0x34 4 = signedNumber s.paths.a.errRange.min ∧
      fieldAt device 0x38 4 = signedNumber s.paths.a.errRange.max ∧
      fieldAt device 0x3C 4 = signedNumber s.paths.b.lastError ∧
      fieldAt device 0x40 4 = signedNumber s.paths.b.errRange.min ∧
      fieldAt device 0x44 4 = signedNumber s.paths.b.errRange.max ∧
      (∀ k : Fin 8, fieldAt device (0x48 + 4 * k.val) 4 = s.status.counters[k.val]) ∧
      zeroAt device 0x68 0x80) ∧
    ((fieldAt summary 0x00 4).testBit i.val = (st.events &&& st.mask != 0) ∧
      (fieldAt summary 0x00 4).testBit 24 = (s.status.events &&& s.status.mask != 0) ∧
      (∀ b, 24 < b → (fieldAt summary 0x00 4).testBit b = false) ∧
      fieldAt summary 0x04 4 = (if s.status.attn then 1 else 0) ∧ zeroAt summary 0x08 0x40) ∧
    fieldAt echo 0x00 4 = s.decoder.echo.count.toNat ∧
      fieldAt echo 0x04 1 = kindCode s.decoder.sel.target ∧
      fieldAt echo 0x05 1 = indexCode s.decoder.sel.target ∧
      fieldAt echo 0x06 1 = s.decoder.sel.next ∧
      fieldAt echo 0x07 1 = resultNumber s.decoder.echo.selectResult ∧
      fieldAt echo 0x08 1 = s.decoder.echo.dataKind ∧ fieldAt echo 0x09 1 = s.decoder.echo.dataIndex ∧
      fieldAt echo 0x0A 1 = s.decoder.echo.dataField ∧
      fieldAt echo 0x0B 1 = resultNumber s.decoder.echo.dataResult ∧
      fieldAt echo 0x0C 1 = (if s.decoder.echo.dataClamped then 1 else 0) ∧
      fieldAt echo 0x10 8 = s.decoder.echo.dataValue.toNat ∧
      fieldAt echo 0x18 1 = s.decoder.echo.actionCode.toNat ∧
      fieldAt echo 0x19 1 = s.decoder.echo.actionOperand.toNat ∧
      fieldAt echo 0x1A 1 = resultNumber s.decoder.echo.actionResult ∧
      zeroAt echo 0x0D 0x10 ∧ zeroAt echo 0x1B 0x40

/-! ### The schedule's arithmetic -/

/-- R21, R22: the frame accumulator is exact: k steps from the record of frame f give the record of frame f + k, its
start floor((f + k) × num / den) and its remainder ((f + k) × num) mod den; a frame is pw or pw + 1 long. -/
def Obligations.FrameAccumulatorExact : Prop :=
  ∀ (p : Params) (f k : Nat), 0 < p.den →
    let clock := fun g : Nat => (⟨g, g * p.num / p.den, g * p.num % p.den⟩ : FrameRec)
    (frameStep p)^[k] (clock f) = clock (f + k) ∧
      ((clock (f + 1)).start = (clock f).start + p.num / p.den ∨
        (clock (f + 1)).start = (clock f).start + p.num / p.den + 1)

/-- R27, R28: the assignment accumulator is exact: n steps from the first position of a frame, n below the number N of
positions, give position n with spacing floor(n × G / D) and remainder (n × gf) mod D; one step past position
N − 1 gives the first position of the next frame. -/
def Obligations.SpacingAccumulatorExact : Prop :=
  ∀ (p : Params) (x : FrameRec) (n : Nat), 0 < p.den → 0 < p.totalLines →
    let count := p.activeLines * p.segsPerLine
    let g := match p.model with | .even => p.num | .active => p.num * p.activeLines
    let d := match p.model with | .even => p.den * count | .active => p.den * p.totalLines * count
    n < count →
      (posStep p)^[n] { frame := x, n := 0, spacing := 0, rem := 0 } =
        { frame := x, n := n, spacing := n * g / d, rem := n * (g % d) % d } ∧
      (n + 1 = count → ∀ sp r, posStep p { frame := x, n := n, spacing := sp, rem := r } =
        { frame := frameStep p x, n := 0, spacing := 0, rem := 0 })

/-! ### What every step keeps -/

/-- R165: no step, whatever its command, leaves the attention line at another level than the latched sets, the masks
and the summary mask call for. -/
def Obligations.AttentionLineAlwaysRight : Prop :=
  ∀ s t : State, AttentionRight s → step s = .next t → AttentionRight t

/-- R65, R68: no step puts a 49th entry into the held-read table, gives a ticket twice, or takes an entry out of it,
but the completion of its answer and the reset line. -/
def Obligations.HeldTableNeverOverfull : Prop :=
  ∀ s t : State, HeldTableRight s → step s = .next t → HeldTableRight t ∧
    ∀ e ∈ s.gate.held, (∃ e' ∈ t.gate.held, e'.ticket = e.ticket) ∨
      (∃ r, s.pending.head? = some (.answerComplete e.ticket) ∧ e.answer = .returning r) ∨
      s.pending.head? = some .resetAssert ∨ ∃ x, s.pending.head? = some (.resetRelease x)

/-- R67, R74, R86: a read that has entered FORWARDED, its answer decided, is not granted and not answered again: while
its entry stands it is FORWARDED with the same outcome and snapshot, for the same request. -/
def Obligations.ForwardedReadIsFinal : Prop :=
  ∀ s t : State, HeldTableRight s → step s = .next t →
    ∀ e ∈ s.gate.held, e.phase = .forwarded → ∀ e' ∈ t.gate.held, e'.ticket = e.ticket →
      e'.phase = .forwarded ∧ e'.outcome = e.outcome ∧ e'.snapshot = e.snapshot ∧ e'.stream = e.stream ∧
        e'.path = e.path ∧ e'.tag = e.tag ∧ e'.addr = e.addr ∧ e'.len = e.len

/-- R106: while any stream is in a state other than IDLE, no step but the release of the reset line lowers the time
base: neither its advance nor a pulse. -/
def Obligations.TimeNeverDecreasesOnAir : Prop :=
  ∀ s t : State, TimeInRange s → RateBounded s → (∀ x rest, s.pending ≠ .resetRelease x :: rest) →
    step s = .next t → (∃ i, (s.stream i).state ≠ .idle) → s.time.now ≤ t.time.now

/-- Every step keeps, each from itself alone: the pending update set free of repeats (R160); the echo queues within 32
entries (R120); the leads within 50,000 ns (R118); rate and trim within ±200,000 ppb and the good count within 3
(R109, R114); every counter within its top value (R159); the selection within its kind (R151); the carve ascending
(R46, R47); the time base within 2^64 − 1 (R105); an epoch in every lock state but FREE (R108, R109); the unlock
window not below the lock window (R107); the segment table sorted (R45); the offset schedules within 8 entries
(R6, R7); the forwarders within 64 requests (R146); the margin trackers within 2,147,483,647 (R129); and every
staged record, active copy, path setting and reference field within its range (R2, R89, R107, R118). -/
def Obligations.StepKeepsBounds : Prop :=
  ∀ s t : State, step s = .next t →
    (UpdatesOnce s → UpdatesOnce t) ∧ (EchoQueuesBounded s → EchoQueuesBounded t) ∧
      (LeadsBounded s → LeadsBounded t) ∧ (RateBounded s → RateBounded t) ∧
      (s.lock.good ≤ 3 → t.lock.good ≤ 3) ∧ (CountersBounded s → CountersBounded t) ∧
      (SelectionInRange s → SelectionInRange t) ∧ (CarveAscending s → CarveAscending t) ∧
      (TimeInRange s → TimeInRange t) ∧ (LockHasEpoch s → LockHasEpoch t) ∧
      (UnlockAboveLock s → UnlockAboveLock t) ∧ (SegmentsSorted s → SegmentsSorted t) ∧
      (OffsetsBounded s → OffsetsBounded t) ∧ (ForwardersBounded s → ForwardersBounded t) ∧
      (TrackersBounded s → TrackersBounded t) ∧ (FieldsInRange s → FieldsInRange t)

/-- R1, R4, R10, R11, R20, R32, R39, R40, R48, R52, R67, R69, R84, R93, R139: the state of the runs holds together over
every step. An IDLE stream holds nothing of a run, any other holds its accumulators, meters, q_head and window, no
two windows share a byte, f_stop stands only in DRAINING, and every unanswered read belongs to an active stream,
on a path of its set. The heads and q_head are those of R39 and R40 after every consumption and assignment. The
ring of a stream that is not IDLE lies in its own part of the carve, and no record of it counts more than L
bytes. -/
def Obligations.RunsHoldTogether : Prop :=
  ∀ s t : State,
    HeldTableRight s ∧ StopFrameOnlyDraining s ∧ RunStateRight s ∧ UnansweredOnAir s ∧ WindowsApart s →
    step s = .next t →
      (StopFrameOnlyDraining t ∧ RunStateRight t ∧ UnansweredOnAir t ∧ WindowsApart t) ∧
      (HeadsRight s → HeadsRight t) ∧
      (CarveAscending s → RingsRight s → RingsRight t ∧ (RecordsWithin s → RecordsWithin t))

/-- The state after reset has every property that the statements above say a step keeps. -/
def Obligations.ResetHasEveryProperty : Prop :=
  AttentionRight State.reset ∧ HeldTableRight State.reset ∧ TimeInRange State.reset ∧
    RateBounded State.reset ∧ UpdatesOnce State.reset ∧ EchoQueuesBounded State.reset ∧
    LeadsBounded State.reset ∧ State.reset.lock.good ≤ 3 ∧ CountersBounded State.reset ∧
    SelectionInRange State.reset ∧ CarveAscending State.reset ∧ LockHasEpoch State.reset ∧
    UnlockAboveLock State.reset ∧ SegmentsSorted State.reset ∧ StopFrameOnlyDraining State.reset ∧
    RunStateRight State.reset ∧ UnansweredOnAir State.reset ∧ WindowsApart State.reset ∧
    OffsetsBounded State.reset ∧ ForwardersBounded State.reset ∧ TrackersBounded State.reset ∧
    FieldsInRange State.reset ∧ HeadsRight State.reset ∧ RingsRight State.reset ∧
    RecordsWithin State.reset
end

