-- ==== Sys2Proof/Laws/State.lean ====
section
/-! SUPPORT. The small lemmas of the state's updates: one for each field and each update, and the laws of the pairs
and of the streams. -/
namespace Sys2Proof.Machine

open Sys2Proof

section Updates

variable (s : State)


/-! #### updStream -/

@[simp] theorem updStream_pending (i : StreamId) (f : Stream → Stream) : (s.updStream i f).pending = s.pending := rfl
@[simp] theorem updStream_inReset (i : StreamId) (f : Stream → Stream) : (s.updStream i f).inReset = s.inReset := rfl
@[simp] theorem updStream_straps (i : StreamId) (f : Stream → Stream) : (s.updStream i f).straps = s.straps := rfl
@[simp] theorem updStream_time (i : StreamId) (f : Stream → Stream) : (s.updStream i f).time = s.time := rfl
@[simp] theorem updStream_refRec (i : StreamId) (f : Stream → Stream) : (s.updStream i f).refRec = s.refRec := rfl
@[simp] theorem updStream_lock (i : StreamId) (f : Stream → Stream) : (s.updStream i f).lock = s.lock := rfl
@[simp] theorem updStream_decoder (i : StreamId) (f : Stream → Stream) : (s.updStream i f).decoder = s.decoder := rfl
@[simp] theorem updStream_streams (i : StreamId) (f : Stream → Stream) : (s.updStream i f).streams = s.streams.set i.val (f (s.stream i)) := rfl
@[simp] theorem updStream_carve (i : StreamId) (f : Stream → Stream) : (s.updStream i f).carve = s.carve := rfl
@[simp] theorem updStream_segs (i : StreamId) (f : Stream → Stream) : (s.updStream i f).segs = s.segs := rfl
@[simp] theorem updStream_gate (i : StreamId) (f : Stream → Stream) : (s.updStream i f).gate = s.gate := rfl
@[simp] theorem updStream_paths (i : StreamId) (f : Stream → Stream) : (s.updStream i f).paths = s.paths := rfl
@[simp] theorem updStream_tags (i : StreamId) (f : Stream → Stream) : (s.updStream i f).tags = s.tags := rfl
@[simp] theorem updStream_ports (i : StreamId) (f : Stream → Stream) : (s.updStream i f).ports = s.ports := rfl
@[simp] theorem updStream_status (i : StreamId) (f : Stream → Stream) : (s.updStream i f).status = s.status := rfl
@[simp] theorem updStream_freeIndex (i : StreamId) (f : Stream → Stream) : (s.updStream i f).freeIndex = s.freeIndex := rfl

/-! #### updPath -/

@[simp] theorem updPath_pending (p : Path) (f : PathState → PathState) : (s.updPath p f).pending = s.pending := rfl
@[simp] theorem updPath_inReset (p : Path) (f : PathState → PathState) : (s.updPath p f).inReset = s.inReset := rfl
@[simp] theorem updPath_straps (p : Path) (f : PathState → PathState) : (s.updPath p f).straps = s.straps := rfl
@[simp] theorem updPath_time (p : Path) (f : PathState → PathState) : (s.updPath p f).time = s.time := rfl
@[simp] theorem updPath_refRec (p : Path) (f : PathState → PathState) : (s.updPath p f).refRec = s.refRec := rfl
@[simp] theorem updPath_lock (p : Path) (f : PathState → PathState) : (s.updPath p f).lock = s.lock := rfl
@[simp] theorem updPath_decoder (p : Path) (f : PathState → PathState) : (s.updPath p f).decoder = s.decoder := rfl
@[simp] theorem updPath_streams (p : Path) (f : PathState → PathState) : (s.updPath p f).streams = s.streams := rfl
@[simp] theorem updPath_carve (p : Path) (f : PathState → PathState) : (s.updPath p f).carve = s.carve := rfl
@[simp] theorem updPath_segs (p : Path) (f : PathState → PathState) : (s.updPath p f).segs = s.segs := rfl
@[simp] theorem updPath_gate (p : Path) (f : PathState → PathState) : (s.updPath p f).gate = s.gate := rfl
@[simp] theorem updPath_paths (p : Path) (f : PathState → PathState) : (s.updPath p f).paths = s.paths.set p (f (s.paths.get p)) := rfl
@[simp] theorem updPath_tags (p : Path) (f : PathState → PathState) : (s.updPath p f).tags = s.tags := rfl
@[simp] theorem updPath_ports (p : Path) (f : PathState → PathState) : (s.updPath p f).ports = s.ports := rfl
@[simp] theorem updPath_status (p : Path) (f : PathState → PathState) : (s.updPath p f).status = s.status := rfl
@[simp] theorem updPath_freeIndex (p : Path) (f : PathState → PathState) : (s.updPath p f).freeIndex = s.freeIndex := rfl

/-! #### withTime -/

@[simp] theorem withTime_pending (x : TimeBase) : (s.withTime x).pending = s.pending := rfl
@[simp] theorem withTime_inReset (x : TimeBase) : (s.withTime x).inReset = s.inReset := rfl
@[simp] theorem withTime_straps (x : TimeBase) : (s.withTime x).straps = s.straps := rfl
@[simp] theorem withTime_time (x : TimeBase) : (s.withTime x).time = x := rfl
@[simp] theorem withTime_refRec (x : TimeBase) : (s.withTime x).refRec = s.refRec := rfl
@[simp] theorem withTime_lock (x : TimeBase) : (s.withTime x).lock = s.lock := rfl
@[simp] theorem withTime_decoder (x : TimeBase) : (s.withTime x).decoder = s.decoder := rfl
@[simp] theorem withTime_streams (x : TimeBase) : (s.withTime x).streams = s.streams := rfl
@[simp] theorem withTime_carve (x : TimeBase) : (s.withTime x).carve = s.carve := rfl
@[simp] theorem withTime_segs (x : TimeBase) : (s.withTime x).segs = s.segs := rfl
@[simp] theorem withTime_gate (x : TimeBase) : (s.withTime x).gate = s.gate := rfl
@[simp] theorem withTime_paths (x : TimeBase) : (s.withTime x).paths = s.paths := rfl
@[simp] theorem withTime_tags (x : TimeBase) : (s.withTime x).tags = s.tags := rfl
@[simp] theorem withTime_ports (x : TimeBase) : (s.withTime x).ports = s.ports := rfl
@[simp] theorem withTime_status (x : TimeBase) : (s.withTime x).status = s.status := rfl
@[simp] theorem withTime_freeIndex (x : TimeBase) : (s.withTime x).freeIndex = s.freeIndex := rfl

/-! #### withRefRec -/

@[simp] theorem withRefRec_pending (x : RefRecord) : (s.withRefRec x).pending = s.pending := rfl
@[simp] theorem withRefRec_inReset (x : RefRecord) : (s.withRefRec x).inReset = s.inReset := rfl
@[simp] theorem withRefRec_straps (x : RefRecord) : (s.withRefRec x).straps = s.straps := rfl
@[simp] theorem withRefRec_time (x : RefRecord) : (s.withRefRec x).time = s.time := rfl
@[simp] theorem withRefRec_refRec (x : RefRecord) : (s.withRefRec x).refRec = x := rfl
@[simp] theorem withRefRec_lock (x : RefRecord) : (s.withRefRec x).lock = s.lock := rfl
@[simp] theorem withRefRec_decoder (x : RefRecord) : (s.withRefRec x).decoder = s.decoder := rfl
@[simp] theorem withRefRec_streams (x : RefRecord) : (s.withRefRec x).streams = s.streams := rfl
@[simp] theorem withRefRec_carve (x : RefRecord) : (s.withRefRec x).carve = s.carve := rfl
@[simp] theorem withRefRec_segs (x : RefRecord) : (s.withRefRec x).segs = s.segs := rfl
@[simp] theorem withRefRec_gate (x : RefRecord) : (s.withRefRec x).gate = s.gate := rfl
@[simp] theorem withRefRec_paths (x : RefRecord) : (s.withRefRec x).paths = s.paths := rfl
@[simp] theorem withRefRec_tags (x : RefRecord) : (s.withRefRec x).tags = s.tags := rfl
@[simp] theorem withRefRec_ports (x : RefRecord) : (s.withRefRec x).ports = s.ports := rfl
@[simp] theorem withRefRec_status (x : RefRecord) : (s.withRefRec x).status = s.status := rfl
@[simp] theorem withRefRec_freeIndex (x : RefRecord) : (s.withRefRec x).freeIndex = s.freeIndex := rfl

/-! #### withLock -/

@[simp] theorem withLock_pending (x : RefLock) : (s.withLock x).pending = s.pending := rfl
@[simp] theorem withLock_inReset (x : RefLock) : (s.withLock x).inReset = s.inReset := rfl
@[simp] theorem withLock_straps (x : RefLock) : (s.withLock x).straps = s.straps := rfl
@[simp] theorem withLock_time (x : RefLock) : (s.withLock x).time = s.time := rfl
@[simp] theorem withLock_refRec (x : RefLock) : (s.withLock x).refRec = s.refRec := rfl
@[simp] theorem withLock_lock (x : RefLock) : (s.withLock x).lock = x := rfl
@[simp] theorem withLock_decoder (x : RefLock) : (s.withLock x).decoder = s.decoder := rfl
@[simp] theorem withLock_streams (x : RefLock) : (s.withLock x).streams = s.streams := rfl
@[simp] theorem withLock_carve (x : RefLock) : (s.withLock x).carve = s.carve := rfl
@[simp] theorem withLock_segs (x : RefLock) : (s.withLock x).segs = s.segs := rfl
@[simp] theorem withLock_gate (x : RefLock) : (s.withLock x).gate = s.gate := rfl
@[simp] theorem withLock_paths (x : RefLock) : (s.withLock x).paths = s.paths := rfl
@[simp] theorem withLock_tags (x : RefLock) : (s.withLock x).tags = s.tags := rfl
@[simp] theorem withLock_ports (x : RefLock) : (s.withLock x).ports = s.ports := rfl
@[simp] theorem withLock_status (x : RefLock) : (s.withLock x).status = s.status := rfl
@[simp] theorem withLock_freeIndex (x : RefLock) : (s.withLock x).freeIndex = s.freeIndex := rfl

/-! #### withDecoder -/

@[simp] theorem withDecoder_pending (x : Decoder) : (s.withDecoder x).pending = s.pending := rfl
@[simp] theorem withDecoder_inReset (x : Decoder) : (s.withDecoder x).inReset = s.inReset := rfl
@[simp] theorem withDecoder_straps (x : Decoder) : (s.withDecoder x).straps = s.straps := rfl
@[simp] theorem withDecoder_time (x : Decoder) : (s.withDecoder x).time = s.time := rfl
@[simp] theorem withDecoder_refRec (x : Decoder) : (s.withDecoder x).refRec = s.refRec := rfl
@[simp] theorem withDecoder_lock (x : Decoder) : (s.withDecoder x).lock = s.lock := rfl
@[simp] theorem withDecoder_decoder (x : Decoder) : (s.withDecoder x).decoder = x := rfl
@[simp] theorem withDecoder_streams (x : Decoder) : (s.withDecoder x).streams = s.streams := rfl
@[simp] theorem withDecoder_carve (x : Decoder) : (s.withDecoder x).carve = s.carve := rfl
@[simp] theorem withDecoder_segs (x : Decoder) : (s.withDecoder x).segs = s.segs := rfl
@[simp] theorem withDecoder_gate (x : Decoder) : (s.withDecoder x).gate = s.gate := rfl
@[simp] theorem withDecoder_paths (x : Decoder) : (s.withDecoder x).paths = s.paths := rfl
@[simp] theorem withDecoder_tags (x : Decoder) : (s.withDecoder x).tags = s.tags := rfl
@[simp] theorem withDecoder_ports (x : Decoder) : (s.withDecoder x).ports = s.ports := rfl
@[simp] theorem withDecoder_status (x : Decoder) : (s.withDecoder x).status = s.status := rfl
@[simp] theorem withDecoder_freeIndex (x : Decoder) : (s.withDecoder x).freeIndex = s.freeIndex := rfl

/-! #### withCarve -/

@[simp] theorem withCarve_pending (x : Vector Nat 24) : (s.withCarve x).pending = s.pending := rfl
@[simp] theorem withCarve_inReset (x : Vector Nat 24) : (s.withCarve x).inReset = s.inReset := rfl
@[simp] theorem withCarve_straps (x : Vector Nat 24) : (s.withCarve x).straps = s.straps := rfl
@[simp] theorem withCarve_time (x : Vector Nat 24) : (s.withCarve x).time = s.time := rfl
@[simp] theorem withCarve_refRec (x : Vector Nat 24) : (s.withCarve x).refRec = s.refRec := rfl
@[simp] theorem withCarve_lock (x : Vector Nat 24) : (s.withCarve x).lock = s.lock := rfl
@[simp] theorem withCarve_decoder (x : Vector Nat 24) : (s.withCarve x).decoder = s.decoder := rfl
@[simp] theorem withCarve_streams (x : Vector Nat 24) : (s.withCarve x).streams = s.streams := rfl
@[simp] theorem withCarve_carve (x : Vector Nat 24) : (s.withCarve x).carve = x := rfl
@[simp] theorem withCarve_segs (x : Vector Nat 24) : (s.withCarve x).segs = s.segs := rfl
@[simp] theorem withCarve_gate (x : Vector Nat 24) : (s.withCarve x).gate = s.gate := rfl
@[simp] theorem withCarve_paths (x : Vector Nat 24) : (s.withCarve x).paths = s.paths := rfl
@[simp] theorem withCarve_tags (x : Vector Nat 24) : (s.withCarve x).tags = s.tags := rfl
@[simp] theorem withCarve_ports (x : Vector Nat 24) : (s.withCarve x).ports = s.ports := rfl
@[simp] theorem withCarve_status (x : Vector Nat 24) : (s.withCarve x).status = s.status := rfl
@[simp] theorem withCarve_freeIndex (x : Vector Nat 24) : (s.withCarve x).freeIndex = s.freeIndex := rfl

/-! #### withSegs -/

@[simp] theorem withSegs_pending (x : List (Nat × SegRecord)) : (s.withSegs x).pending = s.pending := rfl
@[simp] theorem withSegs_inReset (x : List (Nat × SegRecord)) : (s.withSegs x).inReset = s.inReset := rfl
@[simp] theorem withSegs_straps (x : List (Nat × SegRecord)) : (s.withSegs x).straps = s.straps := rfl
@[simp] theorem withSegs_time (x : List (Nat × SegRecord)) : (s.withSegs x).time = s.time := rfl
@[simp] theorem withSegs_refRec (x : List (Nat × SegRecord)) : (s.withSegs x).refRec = s.refRec := rfl
@[simp] theorem withSegs_lock (x : List (Nat × SegRecord)) : (s.withSegs x).lock = s.lock := rfl
@[simp] theorem withSegs_decoder (x : List (Nat × SegRecord)) : (s.withSegs x).decoder = s.decoder := rfl
@[simp] theorem withSegs_streams (x : List (Nat × SegRecord)) : (s.withSegs x).streams = s.streams := rfl
@[simp] theorem withSegs_carve (x : List (Nat × SegRecord)) : (s.withSegs x).carve = s.carve := rfl
@[simp] theorem withSegs_segs (x : List (Nat × SegRecord)) : (s.withSegs x).segs = x := rfl
@[simp] theorem withSegs_gate (x : List (Nat × SegRecord)) : (s.withSegs x).gate = s.gate := rfl
@[simp] theorem withSegs_paths (x : List (Nat × SegRecord)) : (s.withSegs x).paths = s.paths := rfl
@[simp] theorem withSegs_tags (x : List (Nat × SegRecord)) : (s.withSegs x).tags = s.tags := rfl
@[simp] theorem withSegs_ports (x : List (Nat × SegRecord)) : (s.withSegs x).ports = s.ports := rfl
@[simp] theorem withSegs_status (x : List (Nat × SegRecord)) : (s.withSegs x).status = s.status := rfl
@[simp] theorem withSegs_freeIndex (x : List (Nat × SegRecord)) : (s.withSegs x).freeIndex = s.freeIndex := rfl

/-! #### withGate -/

@[simp] theorem withGate_pending (x : Gate) : (s.withGate x).pending = s.pending := rfl
@[simp] theorem withGate_inReset (x : Gate) : (s.withGate x).inReset = s.inReset := rfl
@[simp] theorem withGate_straps (x : Gate) : (s.withGate x).straps = s.straps := rfl
@[simp] theorem withGate_time (x : Gate) : (s.withGate x).time = s.time := rfl
@[simp] theorem withGate_refRec (x : Gate) : (s.withGate x).refRec = s.refRec := rfl
@[simp] theorem withGate_lock (x : Gate) : (s.withGate x).lock = s.lock := rfl
@[simp] theorem withGate_decoder (x : Gate) : (s.withGate x).decoder = s.decoder := rfl
@[simp] theorem withGate_streams (x : Gate) : (s.withGate x).streams = s.streams := rfl
@[simp] theorem withGate_carve (x : Gate) : (s.withGate x).carve = s.carve := rfl
@[simp] theorem withGate_segs (x : Gate) : (s.withGate x).segs = s.segs := rfl
@[simp] theorem withGate_gate (x : Gate) : (s.withGate x).gate = x := rfl
@[simp] theorem withGate_paths (x : Gate) : (s.withGate x).paths = s.paths := rfl
@[simp] theorem withGate_tags (x : Gate) : (s.withGate x).tags = s.tags := rfl
@[simp] theorem withGate_ports (x : Gate) : (s.withGate x).ports = s.ports := rfl
@[simp] theorem withGate_status (x : Gate) : (s.withGate x).status = s.status := rfl
@[simp] theorem withGate_freeIndex (x : Gate) : (s.withGate x).freeIndex = s.freeIndex := rfl

/-! #### withTags -/

@[simp] theorem withTags_pending (x : Vector TagEntry 64) : (s.withTags x).pending = s.pending := rfl
@[simp] theorem withTags_inReset (x : Vector TagEntry 64) : (s.withTags x).inReset = s.inReset := rfl
@[simp] theorem withTags_straps (x : Vector TagEntry 64) : (s.withTags x).straps = s.straps := rfl
@[simp] theorem withTags_time (x : Vector TagEntry 64) : (s.withTags x).time = s.time := rfl
@[simp] theorem withTags_refRec (x : Vector TagEntry 64) : (s.withTags x).refRec = s.refRec := rfl
@[simp] theorem withTags_lock (x : Vector TagEntry 64) : (s.withTags x).lock = s.lock := rfl
@[simp] theorem withTags_decoder (x : Vector TagEntry 64) : (s.withTags x).decoder = s.decoder := rfl
@[simp] theorem withTags_streams (x : Vector TagEntry 64) : (s.withTags x).streams = s.streams := rfl
@[simp] theorem withTags_carve (x : Vector TagEntry 64) : (s.withTags x).carve = s.carve := rfl
@[simp] theorem withTags_segs (x : Vector TagEntry 64) : (s.withTags x).segs = s.segs := rfl
@[simp] theorem withTags_gate (x : Vector TagEntry 64) : (s.withTags x).gate = s.gate := rfl
@[simp] theorem withTags_paths (x : Vector TagEntry 64) : (s.withTags x).paths = s.paths := rfl
@[simp] theorem withTags_tags (x : Vector TagEntry 64) : (s.withTags x).tags = x := rfl
@[simp] theorem withTags_ports (x : Vector TagEntry 64) : (s.withTags x).ports = s.ports := rfl
@[simp] theorem withTags_status (x : Vector TagEntry 64) : (s.withTags x).status = s.status := rfl
@[simp] theorem withTags_freeIndex (x : Vector TagEntry 64) : (s.withTags x).freeIndex = s.freeIndex := rfl

/-! #### withPorts -/

@[simp] theorem withPorts_pending (x : Ports) : (s.withPorts x).pending = s.pending := rfl
@[simp] theorem withPorts_inReset (x : Ports) : (s.withPorts x).inReset = s.inReset := rfl
@[simp] theorem withPorts_straps (x : Ports) : (s.withPorts x).straps = s.straps := rfl
@[simp] theorem withPorts_time (x : Ports) : (s.withPorts x).time = s.time := rfl
@[simp] theorem withPorts_refRec (x : Ports) : (s.withPorts x).refRec = s.refRec := rfl
@[simp] theorem withPorts_lock (x : Ports) : (s.withPorts x).lock = s.lock := rfl
@[simp] theorem withPorts_decoder (x : Ports) : (s.withPorts x).decoder = s.decoder := rfl
@[simp] theorem withPorts_streams (x : Ports) : (s.withPorts x).streams = s.streams := rfl
@[simp] theorem withPorts_carve (x : Ports) : (s.withPorts x).carve = s.carve := rfl
@[simp] theorem withPorts_segs (x : Ports) : (s.withPorts x).segs = s.segs := rfl
@[simp] theorem withPorts_gate (x : Ports) : (s.withPorts x).gate = s.gate := rfl
@[simp] theorem withPorts_paths (x : Ports) : (s.withPorts x).paths = s.paths := rfl
@[simp] theorem withPorts_tags (x : Ports) : (s.withPorts x).tags = s.tags := rfl
@[simp] theorem withPorts_ports (x : Ports) : (s.withPorts x).ports = x := rfl
@[simp] theorem withPorts_status (x : Ports) : (s.withPorts x).status = s.status := rfl
@[simp] theorem withPorts_freeIndex (x : Ports) : (s.withPorts x).freeIndex = s.freeIndex := rfl

/-! #### withStatus -/

@[simp] theorem withStatus_pending (x : Status) : (s.withStatus x).pending = s.pending := rfl
@[simp] theorem withStatus_inReset (x : Status) : (s.withStatus x).inReset = s.inReset := rfl
@[simp] theorem withStatus_straps (x : Status) : (s.withStatus x).straps = s.straps := rfl
@[simp] theorem withStatus_time (x : Status) : (s.withStatus x).time = s.time := rfl
@[simp] theorem withStatus_refRec (x : Status) : (s.withStatus x).refRec = s.refRec := rfl
@[simp] theorem withStatus_lock (x : Status) : (s.withStatus x).lock = s.lock := rfl
@[simp] theorem withStatus_decoder (x : Status) : (s.withStatus x).decoder = s.decoder := rfl
@[simp] theorem withStatus_streams (x : Status) : (s.withStatus x).streams = s.streams := rfl
@[simp] theorem withStatus_carve (x : Status) : (s.withStatus x).carve = s.carve := rfl
@[simp] theorem withStatus_segs (x : Status) : (s.withStatus x).segs = s.segs := rfl
@[simp] theorem withStatus_gate (x : Status) : (s.withStatus x).gate = s.gate := rfl
@[simp] theorem withStatus_paths (x : Status) : (s.withStatus x).paths = s.paths := rfl
@[simp] theorem withStatus_tags (x : Status) : (s.withStatus x).tags = s.tags := rfl
@[simp] theorem withStatus_ports (x : Status) : (s.withStatus x).ports = s.ports := rfl
@[simp] theorem withStatus_status (x : Status) : (s.withStatus x).status = x := rfl
@[simp] theorem withStatus_freeIndex (x : Status) : (s.withStatus x).freeIndex = s.freeIndex := rfl

/-! #### drawFree -/

@[simp] theorem drawFree_pending : (s.drawFree).pending = s.pending := rfl
@[simp] theorem drawFree_inReset : (s.drawFree).inReset = s.inReset := rfl
@[simp] theorem drawFree_straps : (s.drawFree).straps = s.straps := rfl
@[simp] theorem drawFree_time : (s.drawFree).time = s.time := rfl
@[simp] theorem drawFree_refRec : (s.drawFree).refRec = s.refRec := rfl
@[simp] theorem drawFree_lock : (s.drawFree).lock = s.lock := rfl
@[simp] theorem drawFree_decoder : (s.drawFree).decoder = s.decoder := rfl
@[simp] theorem drawFree_streams : (s.drawFree).streams = s.streams := rfl
@[simp] theorem drawFree_carve : (s.drawFree).carve = s.carve := rfl
@[simp] theorem drawFree_segs : (s.drawFree).segs = s.segs := rfl
@[simp] theorem drawFree_gate : (s.drawFree).gate = s.gate := rfl
@[simp] theorem drawFree_paths : (s.drawFree).paths = s.paths := rfl
@[simp] theorem drawFree_tags : (s.drawFree).tags = s.tags := rfl
@[simp] theorem drawFree_ports : (s.drawFree).ports = s.ports := rfl
@[simp] theorem drawFree_status : (s.drawFree).status = s.status := rfl
@[simp] theorem drawFree_freeIndex : (s.drawFree).freeIndex = s.freeIndex + 1 := rfl

/-! #### withPending -/

@[simp] theorem withPending_pending (x : List Instr) : (s.withPending x).pending = x := rfl
@[simp] theorem withPending_inReset (x : List Instr) : (s.withPending x).inReset = s.inReset := rfl
@[simp] theorem withPending_straps (x : List Instr) : (s.withPending x).straps = s.straps := rfl
@[simp] theorem withPending_time (x : List Instr) : (s.withPending x).time = s.time := rfl
@[simp] theorem withPending_refRec (x : List Instr) : (s.withPending x).refRec = s.refRec := rfl
@[simp] theorem withPending_lock (x : List Instr) : (s.withPending x).lock = s.lock := rfl
@[simp] theorem withPending_decoder (x : List Instr) : (s.withPending x).decoder = s.decoder := rfl
@[simp] theorem withPending_streams (x : List Instr) : (s.withPending x).streams = s.streams := rfl
@[simp] theorem withPending_carve (x : List Instr) : (s.withPending x).carve = s.carve := rfl
@[simp] theorem withPending_segs (x : List Instr) : (s.withPending x).segs = s.segs := rfl
@[simp] theorem withPending_gate (x : List Instr) : (s.withPending x).gate = s.gate := rfl
@[simp] theorem withPending_paths (x : List Instr) : (s.withPending x).paths = s.paths := rfl
@[simp] theorem withPending_tags (x : List Instr) : (s.withPending x).tags = s.tags := rfl
@[simp] theorem withPending_ports (x : List Instr) : (s.withPending x).ports = s.ports := rfl
@[simp] theorem withPending_status (x : List Instr) : (s.withPending x).status = s.status := rfl
@[simp] theorem withPending_freeIndex (x : List Instr) : (s.withPending x).freeIndex = s.freeIndex := rfl

end Updates

/-! #### Pairs -/

@[simp] theorem PathPair.get_set {α : Type} (x : PathPair α) (p : Path) (v : α) : (x.set p v).get p = v := by
  cases p <;> rfl

@[simp] theorem PathPair.get_set_ne {α : Type} (x : PathPair α) {p q : Path} (v : α) (h : q ≠ p) :
    (x.set p v).get q = x.get q := by
  cases p <;> cases q <;> first | rfl | exact absurd rfl h

@[simp] theorem PathPair.get_both {α : Type} (v : α) (p : Path) : (PathPair.both v).get p = v := by
  cases p <;> rfl

/-! #### Streams -/

@[simp] theorem updStream_stream (s : State) (i : StreamId) (f : Stream → Stream) :
    (s.updStream i f).stream i = f (s.stream i) := by
  simp [State.stream, State.updStream]

theorem updStream_stream_ne (s : State) {i j : StreamId} (f : Stream → Stream) (h : j ≠ i) :
    (s.updStream i f).stream j = s.stream j := by
  have : i.val ≠ j.val := fun e => h (Fin.ext e.symm)
  simp [State.stream, State.updStream, this]

/-- A stream of a state after a stream's update, by cases. -/
theorem updStream_stream_eq (s : State) (i j : StreamId) (f : Stream → Stream) :
    (s.updStream i f).stream j = if j = i then f (s.stream i) else s.stream j := by
  split
  · next h => subst h; simp
  · next h => exact updStream_stream_ne s f h

@[simp] theorem updPath_stream (s : State) (p : Path) (f : PathState → PathState) (j : StreamId) : (s.updPath p f).stream j = s.stream j := rfl
@[simp] theorem withTime_stream (s : State) (x : TimeBase) (j : StreamId) : (s.withTime x).stream j = s.stream j := rfl
@[simp] theorem withRefRec_stream (s : State) (x : RefRecord) (j : StreamId) : (s.withRefRec x).stream j = s.stream j := rfl
@[simp] theorem withLock_stream (s : State) (x : RefLock) (j : StreamId) : (s.withLock x).stream j = s.stream j := rfl
@[simp] theorem withDecoder_stream (s : State) (x : Decoder) (j : StreamId) : (s.withDecoder x).stream j = s.stream j := rfl
@[simp] theorem withCarve_stream (s : State) (x : Vector Nat 24) (j : StreamId) : (s.withCarve x).stream j = s.stream j := rfl
@[simp] theorem withSegs_stream (s : State) (x : List (Nat × SegRecord)) (j : StreamId) : (s.withSegs x).stream j = s.stream j := rfl
@[simp] theorem withGate_stream (s : State) (x : Gate) (j : StreamId) : (s.withGate x).stream j = s.stream j := rfl
@[simp] theorem withTags_stream (s : State) (x : Vector TagEntry 64) (j : StreamId) : (s.withTags x).stream j = s.stream j := rfl
@[simp] theorem withPorts_stream (s : State) (x : Ports) (j : StreamId) : (s.withPorts x).stream j = s.stream j := rfl
@[simp] theorem withStatus_stream (s : State) (x : Status) (j : StreamId) : (s.withStatus x).stream j = s.stream j := rfl
@[simp] theorem drawFree_stream (s : State) (j : StreamId) : (s.drawFree).stream j = s.stream j := rfl
@[simp] theorem withPending_stream (s : State) (x : List Instr) (j : StreamId) : (s.withPending x).stream j = s.stream j := rfl

@[simp] theorem reset_stream (j : StreamId) : State.reset.stream j = {} := by
  simp [State.stream, State.reset]

end Sys2Proof.Machine
end

