-- ==== Sys2Proof/Laws/Flags.lean ====
section
/-! SUPPORT. What queueing, latching and counting do to the Status Writer, and what `settle` makes of an event: the
lemmas that stand for the definitions of Machine/Flags in later proofs. -/
namespace Sys2Proof.Machine

open Sys2Proof

/-! ### The pending update set -/

theorem mem_enqueueRecord {r x : RecordId} {l : List RecordId} :
    x ∈ enqueueRecord r l ↔ x ∈ l ∨ x = r := by
  unfold enqueueRecord
  split
  · rename_i h
    constructor
    · exact Or.inl
    · rintro (h' | rfl)
      · exact h'
      · exact h
  · simp

theorem enqueueRecord_nodup {r : RecordId} {l : List RecordId} (h : l.Nodup) : (enqueueRecord r l).Nodup := by
  unfold enqueueRecord
  split
  · exact h
  · rename_i hr
    refine List.nodup_append.2 ⟨h, List.nodup_singleton r, ?_⟩
    rintro a ha b hb rfl
    exact hr (List.mem_singleton.1 hb ▸ ha)

theorem joinOrder_nodup : joinOrder.Nodup := by decide

theorem mem_joinOrder (r : RecordId) : r ∈ joinOrder := by
  cases r with
  | summary => decide
  | device => decide
  | echo => decide
  | stream i => revert i; decide

/-! ### The attention line -/

/-- The level the line must have depends on the sets and the masks alone. -/
theorem attentionLevel_congr {s t : State} (hs : ∀ i, (t.stream i).summaryBit = (s.stream i).summaryBit)
    (he : t.status.events = s.status.events) (hm : t.status.mask = s.status.mask)
    (hu : t.status.summaryMask = s.status.summaryMask) : t.attentionLevel = s.attentionLevel := by
  simp only [State.attentionLevel, Status.summaryBit, hs, he, hm, hu]

/-- The summary bits depend on the sets and the masks alone. -/
theorem summaryBits_congr {s t : State} (hs : ∀ i, (t.stream i).summaryBit = (s.stream i).summaryBit)
    (he : t.status.events = s.status.events) (hm : t.status.mask = s.status.mask) :
    t.summaryBits = s.summaryBits := by
  simp only [State.summaryBits, Status.summaryBit, hs, he, hm]

/-- R165: the level the line is given is asserted exactly where the sets and the masks call for it. -/
theorem attentionLevel_iff (s : State) : s.attentionLevel = true ↔ AttentionCalled s := by
  simp [State.attentionLevel, Stream.summaryBit, Status.summaryBit, AttentionCalled]

theorem summaryBit_eq_iff (x y : Stream) :
    x.summaryBit = y.summaryBit ↔ (x.events &&& x.mask ≠ 0#16 ↔ y.events &&& y.mask ≠ 0#16) := by
  rw [Bool.eq_iff_iff]
  simp [Stream.summaryBit]

theorem deviceBit_eq_iff (x y : Status) :
    x.summaryBit = y.summaryBit ↔ (x.events &&& x.mask ≠ 0#10 ↔ y.events &&& y.mask ≠ 0#10) := by
  rw [Bool.eq_iff_iff]
  simp [Status.summaryBit]

/-- R165: two states show the same 25 summary bits exactly where each bit is the same. -/
theorem summaryBits_eq_iff (s t : State) :
    s.summaryBits = t.summaryBits ↔
      (∀ i, StreamShown s i ↔ StreamShown t i) ∧ (DeviceShown s ↔ DeviceShown t) := by
  simp only [State.summaryBits, List.append_singleton_inj, List.map_inj_left, List.mem_finRange,
    forall_const, summaryBit_eq_iff, deviceBit_eq_iff]

/-- R165: an event changed the content of the summary record, as `settle` tests it. -/
theorem summaryChanged_iff (s t : State) :
    (s.summaryBits != t.summaryBits || s.status.attn != t.status.attn) = true ↔ SummaryChanged s t := by
  simp only [Bool.or_eq_true, bne_iff_ne, ne_eq, summaryBits_eq_iff, SummaryChanged, not_and_or, not_forall,
    or_assoc]

section Closing

variable (b s : State)

@[simp] theorem settle_pending : (settle b s).pending = s.pending := rfl
@[simp] theorem settle_inReset : (settle b s).inReset = s.inReset := rfl
@[simp] theorem settle_straps : (settle b s).straps = s.straps := rfl
@[simp] theorem settle_time : (settle b s).time = s.time := rfl
@[simp] theorem settle_refRec : (settle b s).refRec = s.refRec := rfl
@[simp] theorem settle_lock : (settle b s).lock = s.lock := rfl
@[simp] theorem settle_decoder : (settle b s).decoder = s.decoder := rfl
@[simp] theorem settle_streams : (settle b s).streams = s.streams := rfl
@[simp] theorem settle_stream (i : StreamId) : (settle b s).stream i = s.stream i := rfl
@[simp] theorem settle_carve : (settle b s).carve = s.carve := rfl
@[simp] theorem settle_segs : (settle b s).segs = s.segs := rfl
@[simp] theorem settle_gate : (settle b s).gate = s.gate := rfl
@[simp] theorem settle_paths : (settle b s).paths = s.paths := rfl
@[simp] theorem settle_tags : (settle b s).tags = s.tags := rfl
@[simp] theorem settle_ports : (settle b s).ports = s.ports := rfl
@[simp] theorem settle_freeIndex : (settle b s).freeIndex = s.freeIndex := rfl
@[simp] theorem settle_events : (settle b s).status.events = s.status.events := rfl
@[simp] theorem settle_mask : (settle b s).status.mask = s.status.mask := rfl
@[simp] theorem settle_summaryMask : (settle b s).status.summaryMask = s.status.summaryMask := rfl
@[simp] theorem settle_counters : (settle b s).status.counters = s.status.counters := rfl
@[simp] theorem settle_attentionLevel : (settle b s).attentionLevel = s.attentionLevel := rfl
@[simp] theorem settle_summaryBits : (settle b s).summaryBits = s.summaryBits := rfl

/-- The attention line is right after an event, whatever it was before. -/
theorem settle_attention : AttentionRight (settle b s) := attentionLevel_iff (settle b s)

/-- The pending update set holds each record once after an event, if it did before. -/
theorem settle_updates_nodup (h : b.status.updates.Nodup) : (settle b s).status.updates.Nodup := by
  refine List.nodup_append.2 ⟨h, joinOrder_nodup.filter _, ?_⟩
  rintro x hx y hy rfl
  simp only [List.mem_filter, Bool.and_eq_true, decide_eq_true_eq] at hy
  exact hy.2.2 hx

/-- An event that queues exactly the records of `queued` beside those pending closes with them. -/
theorem settle_closes {b s : State} {queued : List RecordId}
    (h : ∀ r, r ∈ s.status.updates ↔ r ∈ b.status.updates ∨ r ∈ queued) :
    ClosesWith b (settle b s) queued := by
  refine ⟨settle_attention b s, ?_⟩
  have hc : (b.summaryBits != s.summaryBits || b.status.attn != s.attentionLevel) = true ↔
      SummaryChanged b (settle b s) := summaryChanged_iff b (settle b s)
  show b.status.updates ++ List.filter _ joinOrder = b.status.updates ++ List.filter _ recordOrder
  congr 1
  refine List.filter_congr fun r _ => ?_
  rw [Bool.eq_iff_iff]
  by_cases hb : r ∈ b.status.updates
  · simp [hb]
  · by_cases hs : SummaryChanged b (settle b s)
    · simp only [hc.2 hs, if_true]
      simp [hb, h, mem_enqueueRecord, hs]
    · simp only [Bool.eq_false_iff.2 fun x => hs (hc.1 x)]
      simp [hb, h, hs]

end Closing

theorem event_live {s : State} (h : s.inReset = false) (f : State → State) : event f s = settle s (f s) := by
  simp [event, h]

theorem event_inReset {s : State} (h : s.inReset = true) (f : State → State) : event f s = s := by
  simp [event, h]

/-! ### Queueing, latching and counting, by what they leave -/

section Ops

variable (s : State)

@[simp] theorem queueRecord_events (r : RecordId) : (s.queueRecord r).status.events = s.status.events := rfl
@[simp] theorem queueRecord_mask (r : RecordId) : (s.queueRecord r).status.mask = s.status.mask := rfl
@[simp] theorem queueRecord_summaryMask (r : RecordId) :
    (s.queueRecord r).status.summaryMask = s.status.summaryMask := rfl
@[simp] theorem queueRecord_counters (r : RecordId) :
    (s.queueRecord r).status.counters = s.status.counters := rfl
@[simp] theorem mem_queueRecord {r x : RecordId} :
    x ∈ (s.queueRecord r).status.updates ↔ x ∈ s.status.updates ∨ x = r := mem_enqueueRecord
@[simp] theorem queueRecord_stream (r : RecordId) (i : StreamId) :
    (s.queueRecord r).stream i = s.stream i := rfl

@[simp] theorem latchDevice_events (e : DeviceEvent) :
    (s.latchDevice e).status.events = s.status.events ||| deviceEventSet e := rfl
@[simp] theorem latchDevice_mask (e : DeviceEvent) : (s.latchDevice e).status.mask = s.status.mask := rfl
@[simp] theorem latchDevice_summaryMask (e : DeviceEvent) :
    (s.latchDevice e).status.summaryMask = s.status.summaryMask := rfl
@[simp] theorem latchDevice_counters (e : DeviceEvent) :
    (s.latchDevice e).status.counters = s.status.counters := rfl
@[simp] theorem mem_latchDevice {e : DeviceEvent} {x : RecordId} :
    x ∈ (s.latchDevice e).status.updates ↔ x ∈ s.status.updates ∨ x = .device := mem_enqueueRecord
@[simp] theorem latchDevice_stream (e : DeviceEvent) (i : StreamId) :
    (s.latchDevice e).stream i = s.stream i := rfl

@[simp] theorem countDevice_events (c : DeviceCounter) :
    (s.countDevice c).status.events = s.status.events := rfl
@[simp] theorem countDevice_mask (c : DeviceCounter) : (s.countDevice c).status.mask = s.status.mask := rfl
@[simp] theorem countDevice_summaryMask (c : DeviceCounter) :
    (s.countDevice c).status.summaryMask = s.status.summaryMask := rfl
@[simp] theorem countDevice_updates (c : DeviceCounter) :
    (s.countDevice c).status.updates = s.status.updates := rfl
@[simp] theorem countDevice_counters (c : DeviceCounter) :
    (s.countDevice c).status.counters =
      bump s.status.counters (deviceCounterIndex c) := rfl
@[simp] theorem countDevice_stream (c : DeviceCounter) (i : StreamId) :
    (s.countDevice c).stream i = s.stream i := rfl

@[simp] theorem latch_events (i : StreamId) (e : StreamEvent) :
    (s.latch i e).status.events = s.status.events := rfl
@[simp] theorem latch_mask (i : StreamId) (e : StreamEvent) : (s.latch i e).status.mask = s.status.mask := rfl
@[simp] theorem latch_summaryMask (i : StreamId) (e : StreamEvent) :
    (s.latch i e).status.summaryMask = s.status.summaryMask := rfl
@[simp] theorem latch_counters (i : StreamId) (e : StreamEvent) :
    (s.latch i e).status.counters = s.status.counters := rfl
@[simp] theorem mem_latch {i : StreamId} {e : StreamEvent} {x : RecordId} :
    x ∈ (s.latch i e).status.updates ↔ x ∈ s.status.updates ∨ x = .stream i := mem_enqueueRecord
theorem latch_stream (i j : StreamId) (e : StreamEvent) :
    (s.latch i e).stream j =
      if j = i then { s.stream i with events := (s.stream i).events ||| streamEventSet e } else s.stream j :=
  updStream_stream_eq s i j fun st => { st with events := st.events ||| streamEventSet e }

@[simp] theorem count_status (i : StreamId) (c : StreamCounter) : (s.count i c).status = s.status := rfl
theorem count_stream (i j : StreamId) (c : StreamCounter) :
    (s.count i c).stream j = if j = i then (s.stream i).count c else s.stream j := updStream_stream_eq ..

@[simp] theorem setStreamState_events (i : StreamId) (x : StreamState) :
    (s.setStreamState i x).status.events = s.status.events := rfl
@[simp] theorem setStreamState_mask (i : StreamId) (x : StreamState) :
    (s.setStreamState i x).status.mask = s.status.mask := rfl
@[simp] theorem setStreamState_summaryMask (i : StreamId) (x : StreamState) :
    (s.setStreamState i x).status.summaryMask = s.status.summaryMask := rfl
@[simp] theorem setStreamState_counters (i : StreamId) (x : StreamState) :
    (s.setStreamState i x).status.counters = s.status.counters := rfl
@[simp] theorem mem_setStreamState {i : StreamId} {x : StreamState} {r : RecordId} :
    r ∈ (s.setStreamState i x).status.updates ↔ r ∈ s.status.updates ∨ r = .stream i := mem_enqueueRecord
theorem setStreamState_stream (i j : StreamId) (x : StreamState) :
    (s.setStreamState i x).stream j =
      if j = i then { s.stream i with state := x } else s.stream j :=
  updStream_stream_eq s i j fun st => { st with state := x }

end Ops

/-! ### What queueing, latching and counting leave alone, field by field -/

section Frames

variable (s : State)

@[simp] theorem queueRecord_pending (r : RecordId) : (s.queueRecord r).pending = s.pending := rfl
@[simp] theorem queueRecord_inReset (r : RecordId) : (s.queueRecord r).inReset = s.inReset := rfl
@[simp] theorem queueRecord_straps (r : RecordId) : (s.queueRecord r).straps = s.straps := rfl
@[simp] theorem queueRecord_time (r : RecordId) : (s.queueRecord r).time = s.time := rfl
@[simp] theorem queueRecord_refRec (r : RecordId) : (s.queueRecord r).refRec = s.refRec := rfl
@[simp] theorem queueRecord_lock (r : RecordId) : (s.queueRecord r).lock = s.lock := rfl
@[simp] theorem queueRecord_decoder (r : RecordId) : (s.queueRecord r).decoder = s.decoder := rfl
@[simp] theorem queueRecord_carve (r : RecordId) : (s.queueRecord r).carve = s.carve := rfl
@[simp] theorem queueRecord_segs (r : RecordId) : (s.queueRecord r).segs = s.segs := rfl
@[simp] theorem queueRecord_gate (r : RecordId) : (s.queueRecord r).gate = s.gate := rfl
@[simp] theorem queueRecord_paths (r : RecordId) : (s.queueRecord r).paths = s.paths := rfl
@[simp] theorem queueRecord_tags (r : RecordId) : (s.queueRecord r).tags = s.tags := rfl
@[simp] theorem queueRecord_ports (r : RecordId) : (s.queueRecord r).ports = s.ports := rfl
@[simp] theorem queueRecord_freeIndex (r : RecordId) : (s.queueRecord r).freeIndex = s.freeIndex := rfl
@[simp] theorem queueRecord_streams (r : RecordId) : (s.queueRecord r).streams = s.streams := rfl

@[simp] theorem latchDevice_pending (e : DeviceEvent) : (s.latchDevice e).pending = s.pending := rfl
@[simp] theorem latchDevice_inReset (e : DeviceEvent) : (s.latchDevice e).inReset = s.inReset := rfl
@[simp] theorem latchDevice_straps (e : DeviceEvent) : (s.latchDevice e).straps = s.straps := rfl
@[simp] theorem latchDevice_time (e : DeviceEvent) : (s.latchDevice e).time = s.time := rfl
@[simp] theorem latchDevice_refRec (e : DeviceEvent) : (s.latchDevice e).refRec = s.refRec := rfl
@[simp] theorem latchDevice_lock (e : DeviceEvent) : (s.latchDevice e).lock = s.lock := rfl
@[simp] theorem latchDevice_decoder (e : DeviceEvent) : (s.latchDevice e).decoder = s.decoder := rfl
@[simp] theorem latchDevice_carve (e : DeviceEvent) : (s.latchDevice e).carve = s.carve := rfl
@[simp] theorem latchDevice_segs (e : DeviceEvent) : (s.latchDevice e).segs = s.segs := rfl
@[simp] theorem latchDevice_gate (e : DeviceEvent) : (s.latchDevice e).gate = s.gate := rfl
@[simp] theorem latchDevice_paths (e : DeviceEvent) : (s.latchDevice e).paths = s.paths := rfl
@[simp] theorem latchDevice_tags (e : DeviceEvent) : (s.latchDevice e).tags = s.tags := rfl
@[simp] theorem latchDevice_ports (e : DeviceEvent) : (s.latchDevice e).ports = s.ports := rfl
@[simp] theorem latchDevice_freeIndex (e : DeviceEvent) : (s.latchDevice e).freeIndex = s.freeIndex := rfl
@[simp] theorem latchDevice_streams (e : DeviceEvent) : (s.latchDevice e).streams = s.streams := rfl

@[simp] theorem countDevice_pending (c : DeviceCounter) : (s.countDevice c).pending = s.pending := rfl
@[simp] theorem countDevice_inReset (c : DeviceCounter) : (s.countDevice c).inReset = s.inReset := rfl
@[simp] theorem countDevice_straps (c : DeviceCounter) : (s.countDevice c).straps = s.straps := rfl
@[simp] theorem countDevice_time (c : DeviceCounter) : (s.countDevice c).time = s.time := rfl
@[simp] theorem countDevice_refRec (c : DeviceCounter) : (s.countDevice c).refRec = s.refRec := rfl
@[simp] theorem countDevice_lock (c : DeviceCounter) : (s.countDevice c).lock = s.lock := rfl
@[simp] theorem countDevice_decoder (c : DeviceCounter) : (s.countDevice c).decoder = s.decoder := rfl
@[simp] theorem countDevice_carve (c : DeviceCounter) : (s.countDevice c).carve = s.carve := rfl
@[simp] theorem countDevice_segs (c : DeviceCounter) : (s.countDevice c).segs = s.segs := rfl
@[simp] theorem countDevice_gate (c : DeviceCounter) : (s.countDevice c).gate = s.gate := rfl
@[simp] theorem countDevice_paths (c : DeviceCounter) : (s.countDevice c).paths = s.paths := rfl
@[simp] theorem countDevice_tags (c : DeviceCounter) : (s.countDevice c).tags = s.tags := rfl
@[simp] theorem countDevice_ports (c : DeviceCounter) : (s.countDevice c).ports = s.ports := rfl
@[simp] theorem countDevice_freeIndex (c : DeviceCounter) : (s.countDevice c).freeIndex = s.freeIndex := rfl
@[simp] theorem countDevice_streams (c : DeviceCounter) : (s.countDevice c).streams = s.streams := rfl

@[simp] theorem latch_pending (i : StreamId) (e : StreamEvent) : (s.latch i e).pending = s.pending := rfl
@[simp] theorem latch_inReset (i : StreamId) (e : StreamEvent) : (s.latch i e).inReset = s.inReset := rfl
@[simp] theorem latch_straps (i : StreamId) (e : StreamEvent) : (s.latch i e).straps = s.straps := rfl
@[simp] theorem latch_time (i : StreamId) (e : StreamEvent) : (s.latch i e).time = s.time := rfl
@[simp] theorem latch_refRec (i : StreamId) (e : StreamEvent) : (s.latch i e).refRec = s.refRec := rfl
@[simp] theorem latch_lock (i : StreamId) (e : StreamEvent) : (s.latch i e).lock = s.lock := rfl
@[simp] theorem latch_decoder (i : StreamId) (e : StreamEvent) : (s.latch i e).decoder = s.decoder := rfl
@[simp] theorem latch_carve (i : StreamId) (e : StreamEvent) : (s.latch i e).carve = s.carve := rfl
@[simp] theorem latch_segs (i : StreamId) (e : StreamEvent) : (s.latch i e).segs = s.segs := rfl
@[simp] theorem latch_gate (i : StreamId) (e : StreamEvent) : (s.latch i e).gate = s.gate := rfl
@[simp] theorem latch_paths (i : StreamId) (e : StreamEvent) : (s.latch i e).paths = s.paths := rfl
@[simp] theorem latch_tags (i : StreamId) (e : StreamEvent) : (s.latch i e).tags = s.tags := rfl
@[simp] theorem latch_ports (i : StreamId) (e : StreamEvent) : (s.latch i e).ports = s.ports := rfl
@[simp] theorem latch_freeIndex (i : StreamId) (e : StreamEvent) :
    (s.latch i e).freeIndex = s.freeIndex := rfl

@[simp] theorem count_pending (i : StreamId) (c : StreamCounter) : (s.count i c).pending = s.pending := rfl
@[simp] theorem count_inReset (i : StreamId) (c : StreamCounter) : (s.count i c).inReset = s.inReset := rfl
@[simp] theorem count_straps (i : StreamId) (c : StreamCounter) : (s.count i c).straps = s.straps := rfl
@[simp] theorem count_time (i : StreamId) (c : StreamCounter) : (s.count i c).time = s.time := rfl
@[simp] theorem count_refRec (i : StreamId) (c : StreamCounter) : (s.count i c).refRec = s.refRec := rfl
@[simp] theorem count_lock (i : StreamId) (c : StreamCounter) : (s.count i c).lock = s.lock := rfl
@[simp] theorem count_decoder (i : StreamId) (c : StreamCounter) : (s.count i c).decoder = s.decoder := rfl
@[simp] theorem count_carve (i : StreamId) (c : StreamCounter) : (s.count i c).carve = s.carve := rfl
@[simp] theorem count_segs (i : StreamId) (c : StreamCounter) : (s.count i c).segs = s.segs := rfl
@[simp] theorem count_gate (i : StreamId) (c : StreamCounter) : (s.count i c).gate = s.gate := rfl
@[simp] theorem count_paths (i : StreamId) (c : StreamCounter) : (s.count i c).paths = s.paths := rfl
@[simp] theorem count_tags (i : StreamId) (c : StreamCounter) : (s.count i c).tags = s.tags := rfl
@[simp] theorem count_ports (i : StreamId) (c : StreamCounter) : (s.count i c).ports = s.ports := rfl
@[simp] theorem count_freeIndex (i : StreamId) (c : StreamCounter) :
    (s.count i c).freeIndex = s.freeIndex := rfl

@[simp] theorem setStreamState_pending (i : StreamId) (x : StreamState) :
    (s.setStreamState i x).pending = s.pending := rfl
@[simp] theorem setStreamState_inReset (i : StreamId) (x : StreamState) :
    (s.setStreamState i x).inReset = s.inReset := rfl
@[simp] theorem setStreamState_straps (i : StreamId) (x : StreamState) :
    (s.setStreamState i x).straps = s.straps := rfl
@[simp] theorem setStreamState_time (i : StreamId) (x : StreamState) :
    (s.setStreamState i x).time = s.time := rfl
@[simp] theorem setStreamState_refRec (i : StreamId) (x : StreamState) :
    (s.setStreamState i x).refRec = s.refRec := rfl
@[simp] theorem setStreamState_lock (i : StreamId) (x : StreamState) :
    (s.setStreamState i x).lock = s.lock := rfl
@[simp] theorem setStreamState_decoder (i : StreamId) (x : StreamState) :
    (s.setStreamState i x).decoder = s.decoder := rfl
@[simp] theorem setStreamState_carve (i : StreamId) (x : StreamState) :
    (s.setStreamState i x).carve = s.carve := rfl
@[simp] theorem setStreamState_segs (i : StreamId) (x : StreamState) :
    (s.setStreamState i x).segs = s.segs := rfl
@[simp] theorem setStreamState_gate (i : StreamId) (x : StreamState) :
    (s.setStreamState i x).gate = s.gate := rfl
@[simp] theorem setStreamState_paths (i : StreamId) (x : StreamState) :
    (s.setStreamState i x).paths = s.paths := rfl
@[simp] theorem setStreamState_tags (i : StreamId) (x : StreamState) :
    (s.setStreamState i x).tags = s.tags := rfl
@[simp] theorem setStreamState_ports (i : StreamId) (x : StreamState) :
    (s.setStreamState i x).ports = s.ports := rfl
@[simp] theorem setStreamState_freeIndex (i : StreamId) (x : StreamState) :
    (s.setStreamState i x).freeIndex = s.freeIndex := rfl

end Frames

/-- R150, R156: the end of a command word, by what it leaves: its part of the echo record and the Status Writer's
note of its result. -/
theorem endCommand_closes {b s : State} (r : ResultCode) (f : CommandEcho → CommandEcho) {more : List RecordId}
    (hu : ∀ x, x ∈ s.status.updates ↔ x ∈ b.status.updates ∨ x ∈ more) :
    ClosesWith b (settle b (s.endCommand r f))
      (.echo :: (if r = .done then [] else [.device]) ++ more) := by
  refine settle_closes fun x => ?_
  unfold State.endCommand State.noteRefusal
  split <;> simp [hu] <;> tauto

end Sys2Proof.Machine
end

