-- ==== Sys2Proof/Laws/Commands.lean ====
section
/-! SUPPORT. What the end of a command word leaves (R150, R156), and what the three kinds of word do, each as one
equation: the lemmas that stand for the definitions of Machine/Commands in later proofs. -/
namespace Sys2Proof.Machine

open Sys2Proof

@[simp] theorem endCommand_decoder (s : State) (r : ResultCode) (f : CommandEcho → CommandEcho) :
    (s.endCommand r f).decoder =
      { s.decoder with echo := { f s.decoder.echo with count := s.decoder.echo.count + 1 } } := by
  unfold State.endCommand State.noteRefusal
  split <;> rfl

/-- The end of a command word changes the decoder and the Status Writer alone. -/
theorem endCommand_frame (s : State) (r : ResultCode) (f : CommandEcho → CommandEcho) :
    s.endCommand r f =
      { s with decoder := (s.endCommand r f).decoder, status := (s.endCommand r f).status } := by
  unfold State.endCommand State.noteRefusal
  split <;> rfl

@[simp] theorem endCommand_pending (s : State) (r : ResultCode) (f : CommandEcho → CommandEcho) :
    (s.endCommand r f).pending = s.pending := by rw [endCommand_frame]

@[simp] theorem endCommand_inReset (s : State) (r : ResultCode) (f : CommandEcho → CommandEcho) :
    (s.endCommand r f).inReset = s.inReset := by rw [endCommand_frame]

@[simp] theorem endCommand_straps (s : State) (r : ResultCode) (f : CommandEcho → CommandEcho) :
    (s.endCommand r f).straps = s.straps := by rw [endCommand_frame]

@[simp] theorem endCommand_time (s : State) (r : ResultCode) (f : CommandEcho → CommandEcho) :
    (s.endCommand r f).time = s.time := by rw [endCommand_frame]

@[simp] theorem endCommand_refRec (s : State) (r : ResultCode) (f : CommandEcho → CommandEcho) :
    (s.endCommand r f).refRec = s.refRec := by rw [endCommand_frame]

@[simp] theorem endCommand_lock (s : State) (r : ResultCode) (f : CommandEcho → CommandEcho) :
    (s.endCommand r f).lock = s.lock := by rw [endCommand_frame]

@[simp] theorem endCommand_streams (s : State) (r : ResultCode) (f : CommandEcho → CommandEcho) :
    (s.endCommand r f).streams = s.streams := by rw [endCommand_frame]

@[simp] theorem endCommand_carve (s : State) (r : ResultCode) (f : CommandEcho → CommandEcho) :
    (s.endCommand r f).carve = s.carve := by rw [endCommand_frame]

@[simp] theorem endCommand_segs (s : State) (r : ResultCode) (f : CommandEcho → CommandEcho) :
    (s.endCommand r f).segs = s.segs := by rw [endCommand_frame]

@[simp] theorem endCommand_gate (s : State) (r : ResultCode) (f : CommandEcho → CommandEcho) :
    (s.endCommand r f).gate = s.gate := by rw [endCommand_frame]

@[simp] theorem endCommand_paths (s : State) (r : ResultCode) (f : CommandEcho → CommandEcho) :
    (s.endCommand r f).paths = s.paths := by rw [endCommand_frame]

@[simp] theorem endCommand_tags (s : State) (r : ResultCode) (f : CommandEcho → CommandEcho) :
    (s.endCommand r f).tags = s.tags := by rw [endCommand_frame]

@[simp] theorem endCommand_ports (s : State) (r : ResultCode) (f : CommandEcho → CommandEcho) :
    (s.endCommand r f).ports = s.ports := by rw [endCommand_frame]

@[simp] theorem endCommand_freeIndex (s : State) (r : ResultCode) (f : CommandEcho → CommandEcho) :
    (s.endCommand r f).freeIndex = s.freeIndex := by rw [endCommand_frame]

@[simp] theorem endCommand_stream (s : State) (r : ResultCode) (f : CommandEcho → CommandEcho) (i : StreamId) :
    (s.endCommand r f).stream i = s.stream i := by rw [endCommand_frame]; rfl

/-- The closing of an event changes the Status Writer alone. -/
theorem settle_frame (b s : State) : settle b s = { s with status := (settle b s).status } := rfl

/-- What a command word leaves in the Status Writer, where its effect before the end has left the flags, the counters
and the masks as given. -/
theorem wordStatus_end {b s : State} (r : ResultCode) (f : CommandEcho → CommandEcho) (clamped : Bool)
    (he : s.status.events = b.status.events ||| (if clamped then 512#10 else 0#10))
    (hc : s.status.counters = b.status.counters) (hm : s.status.mask = b.status.mask)
    (hs : s.status.summaryMask = b.status.summaryMask) {more : List RecordId}
    (hu : ∀ x, x ∈ s.status.updates ↔ x ∈ b.status.updates ∨ (x = .device ∧ clamped = true) ∨ x ∈ more) :
    WordStatus b (settle b (s.endCommand r f)) clamped r more := by
  constructor
  · unfold State.endCommand State.noteRefusal wordEvents
    split
    · simp_all
    · simp_all; rfl
  · unfold State.endCommand State.noteRefusal wordCounters
    split
    · simp_all
    · simp_all; rfl
  · unfold State.endCommand State.noteRefusal
    split <;> simp_all
  · unfold State.endCommand State.noteRefusal
    split <;> simp_all
  · refine settle_closes fun x => ?_
    unfold State.endCommand State.noteRefusal
    split
    · cases clamped <;> simp_all <;> tauto
    · cases clamped <;> simp_all <;> tauto

/-- A DATA word under a selection: what its owner made of the clamped value, then the selection advanced and the word
recorded. -/
theorem takeData_selected (s : State) (w : BitVec 64) (h : s.decoder.sel.target ≠ .none) :
    s.takeData w = s.takeSelectedData s.decoder.sel w.toNat := by
  simp [State.takeData, h]

/-- A DATA word under no selection. -/
theorem takeData_none (s : State) (w : BitVec 64) (h : s.decoder.sel.target = .none) :
    s.takeData w = s.endCommand .noSelection fun e => e.withData s.decoder.sel .noSelection 0 false := by
  simp [State.takeData, h]

/-! ### DATA words -/

theorem noteClamp_events (s : State) (c : Bool) :
    (s.noteClamp c).status.events = s.status.events ||| (if c then 512#10 else 0#10) := by
  cases c
  · simp [State.noteClamp]
  · rfl

theorem mem_noteClamp (s : State) (c : Bool) (x : RecordId) :
    x ∈ (s.noteClamp c).status.updates ↔ x ∈ s.status.updates ∨ (x = .device ∧ c = true) := by
  cases c <;> simp [State.noteClamp]

/-- Reporting a clamped write changes the Status Writer alone. -/
theorem noteClamp_frame (s : State) (c : Bool) :
    s.noteClamp c = { s with status := (s.noteClamp c).status } := by
  cases c <;> rfl

@[simp] theorem noteClamp_counters (s : State) (c : Bool) :
    (s.noteClamp c).status.counters = s.status.counters := by cases c <;> rfl
@[simp] theorem noteClamp_mask (s : State) (c : Bool) : (s.noteClamp c).status.mask = s.status.mask := by
  cases c <;> rfl
@[simp] theorem noteClamp_summaryMask (s : State) (c : Bool) :
    (s.noteClamp c).status.summaryMask = s.status.summaryMask := by cases c <;> rfl
@[simp] theorem noteClamp_decoder (s : State) (c : Bool) : (s.noteClamp c).decoder = s.decoder := by
  cases c <;> rfl
@[simp] theorem noteClamp_stream (s : State) (c : Bool) (i : StreamId) :
    (s.noteClamp c).stream i = s.stream i := by cases c <;> rfl
@[simp] theorem noteClamp_streams (s : State) (c : Bool) : (s.noteClamp c).streams = s.streams := by
  cases c <;> rfl
@[simp] theorem noteClamp_carve (s : State) (c : Bool) : (s.noteClamp c).carve = s.carve := by
  cases c <;> rfl
@[simp] theorem noteClamp_tags (s : State) (c : Bool) : (s.noteClamp c).tags = s.tags := by cases c <;> rfl
@[simp] theorem noteClamp_paths (s : State) (c : Bool) : (s.noteClamp c).paths = s.paths := by
  cases c <;> rfl
@[simp] theorem noteClamp_gate (s : State) (c : Bool) : (s.noteClamp c).gate = s.gate := by cases c <;> rfl
@[simp] theorem noteClamp_time (s : State) (c : Bool) : (s.noteClamp c).time = s.time := by cases c <;> rfl
@[simp] theorem noteClamp_refRec (s : State) (c : Bool) : (s.noteClamp c).refRec = s.refRec := by
  cases c <;> rfl
@[simp] theorem noteClamp_lock (s : State) (c : Bool) : (s.noteClamp c).lock = s.lock := by cases c <;> rfl

/-- The end of a DATA word, by what it leaves, where the owner has left the decoder, the flags, the counters and the
masks as given. -/
theorem dataTaken_end {b o : State} {r : ResultCode} {c : Nat} {clamped : Bool} {more : List RecordId}
    (hd : o.decoder = b.decoder)
    (he : o.status.events = b.status.events ||| (if clamped then 512#10 else 0#10))
    (hc : o.status.counters = b.status.counters) (hm : o.status.mask = b.status.mask)
    (hs : o.status.summaryMask = b.status.summaryMask)
    (hu : ∀ x, x ∈ o.status.updates ↔ x ∈ b.status.updates ∨ (x = .device ∧ clamped = true) ∨ x ∈ more) :
    DataTaken b
      (settle b ((o.withDecoder { o.decoder with sel := b.decoder.sel.advance }).endCommand r fun e =>
        e.withData b.decoder.sel r c clamped)) r c clamped more := by
  refine ⟨?_, wordStatus_end (s := o.withDecoder { o.decoder with sel := b.decoder.sel.advance }) r _ clamped
    he hc hm hs hu⟩
  simp only [settle_decoder, endCommand_decoder, withDecoder_decoder, hd, CommandEcho.withData,
    Decoder.mk.injEq, and_true]
  unfold Selection.advance selectionAfterData
  split <;> rfl

/-! ### ACTION words -/

@[simp] theorem wordCode_actionWord (c : Nat) (o : BitVec 8) (h : c < 256) : wordCode (actionWord c o) = c := by
  simp only [wordCode, actionWord, BitVec.extractLsb'_toNat, BitVec.toNat_ofNat]
  omega

@[simp] theorem wordOperand_actionWord (c : Nat) (o : BitVec 8) (h : c < 256) :
    wordOperand (actionWord c o) = o.toNat := by
  have := o.isLt
  simp only [wordOperand, actionWord, BitVec.extractLsb'_toNat, BitVec.toNat_ofNat, Nat.shiftRight_eq_div_pow]
  omega

@[simp] theorem actionReservedZero_actionWord (c : Nat) (o : BitVec 8) (h : c < 256) :
    actionReservedZero (actionWord c o) = true := by
  have := o.isLt
  rw [actionReservedZero, beq_iff_eq, ← BitVec.toNat_inj]
  simp only [actionWord, BitVec.toNat_ushiftRight, BitVec.toNat_ofNat, Nat.shiftRight_eq_div_pow,
    BitVec.ofNat_eq_ofNat, Nat.zero_mod]
  omega

/-- An ACTION word of a code and an operand: the action, then the word recorded with its result. -/
theorem takeAction_actionWord (s : State) (c : Nat) (o : BitVec 8) (h : c < 256) :
    s.takeAction (actionWord c o) =
      (s.act c o.toNat).2.endCommand (s.act c o.toNat).1 fun e =>
        e.withAction (BitVec.ofNat 8 c) o (s.act c o.toNat).1 := by
  simp [State.takeAction, h]

/-- An action on the stream an operand names. -/
theorem onStream_of_lt (s : State) (n : Nat) (f : State → StreamId → ResultCode × State) (h : n < 24) :
    s.onStream n f = f s ⟨n, h⟩ := by simp [State.onStream, h]

/-- An operand that names no stream. -/
theorem onStream_of_ge (s : State) (n : Nat) (f : State → StreamId → ResultCode × State) (h : 24 ≤ n) :
    s.onStream n f = (.index, s) := by simp [State.onStream, Nat.not_lt.2 h]

end Sys2Proof.Machine
end

