-- ==== Sys2Proof/Laws/Footprint.lean ====
section
/-! SUPPORT. What the operations of the blocks leave alone. `State.still` gathers the fields that no operation on
streams, held reads, paths, forwarders or flags changes: one lemma for each operation says so, and from it
each field's own equation follows. `State.tickets` gathers the tickets of the held-read table, which change
where a read arrives or its answer completes and nowhere else. -/
namespace Sys2Proof.Machine

open Sys2Proof

/-- The fields of State outside the data path. -/
structure Still where
  pending : List Instr
  inReset : Bool
  straps : BitVec 24
  time : TimeBase
  refRec : RefRecord
  lock : RefLock
  decoder : Decoder
  carve : Vector Nat 24
  tags : Vector TagEntry 64

/-- The fields of a state outside the data path. -/
def State.still (s : State) : Still :=
  ⟨s.pending, s.inReset, s.straps, s.time, s.refRec, s.lock, s.decoder, s.carve, s.tags⟩

/-- The tickets of the held-read table, in arrival order. -/
def State.tickets (s : State) : List Nat := s.gate.held.map (·.ticket)

/-- The fields, from the equation of the whole. -/
theorem still_fields {s t : State} (h : t.still = s.still) :
    t.pending = s.pending ∧ t.inReset = s.inReset ∧ t.straps = s.straps ∧ t.time = s.time ∧
      t.refRec = s.refRec ∧ t.lock = s.lock ∧ t.decoder = s.decoder ∧ t.carve = s.carve ∧
      t.tags = s.tags := by
  simp only [State.still, Still.mk.injEq] at h
  exact h

/-- The table's length, from its tickets. -/
theorem held_length_of_tickets {s t : State} (h : t.tickets = s.tickets) :
    t.gate.held.length = s.gate.held.length := by
  have := congrArg List.length h
  simpa [State.tickets] using this

/-- A fold of operations that keep a projection keeps it. -/
theorem foldl_keeps {α β : Type} {g : State → β} {f : State → α → State} (h : ∀ s x, g (f s x) = g s)
    (l : List α) (s : State) : g (l.foldl f s) = g s := by
  induction l generalizing s with
  | nil => rfl
  | cons x l ih => rw [List.foldl_cons, ih, h]

section Updates

variable (s : State)

@[simp] theorem updStream_still (i : StreamId) (f : Stream → Stream) : (s.updStream i f).still = s.still := rfl
@[simp] theorem updPath_still (p : Path) (f : PathState → PathState) : (s.updPath p f).still = s.still := rfl
@[simp] theorem withSegs_still (x : List (Nat × SegRecord)) : (s.withSegs x).still = s.still := rfl
@[simp] theorem withGate_still (x : Gate) : (s.withGate x).still = s.still := rfl
@[simp] theorem withPorts_still (x : Ports) : (s.withPorts x).still = s.still := rfl
@[simp] theorem withStatus_still (x : Status) : (s.withStatus x).still = s.still := rfl
@[simp] theorem drawFree_still : s.drawFree.still = s.still := rfl

@[simp] theorem updStream_tickets (i : StreamId) (f : Stream → Stream) :
    (s.updStream i f).tickets = s.tickets := rfl
@[simp] theorem updPath_tickets (p : Path) (f : PathState → PathState) :
    (s.updPath p f).tickets = s.tickets := rfl
@[simp] theorem withSegs_tickets (x : List (Nat × SegRecord)) : (s.withSegs x).tickets = s.tickets := rfl
@[simp] theorem withPorts_tickets (x : Ports) : (s.withPorts x).tickets = s.tickets := rfl
@[simp] theorem withStatus_tickets (x : Status) : (s.withStatus x).tickets = s.tickets := rfl
@[simp] theorem withDecoder_tickets (x : Decoder) : (s.withDecoder x).tickets = s.tickets := rfl
@[simp] theorem withLock_tickets (x : RefLock) : (s.withLock x).tickets = s.tickets := rfl
@[simp] theorem withRefRec_tickets (x : RefRecord) : (s.withRefRec x).tickets = s.tickets := rfl
@[simp] theorem withTime_tickets (x : TimeBase) : (s.withTime x).tickets = s.tickets := rfl
@[simp] theorem withCarve_tickets (x : Vector Nat 24) : (s.withCarve x).tickets = s.tickets := rfl
@[simp] theorem withTags_tickets (x : Vector TagEntry 64) : (s.withTags x).tickets = s.tickets := rfl
@[simp] theorem drawFree_tickets : s.drawFree.tickets = s.tickets := rfl

end Updates

/-- An update of entries that keeps each ticket keeps the tickets. -/
theorem map_tickets (s : State) (f : HeldRead → HeldRead) (h : ∀ e, (f e).ticket = e.ticket) (g : Gate)
    (hg : g.held = s.gate.held.map f) : (s.withGate g).tickets = s.tickets := by
  simp [State.tickets, hg, Function.comp_def, h]

theorem updEntry_tickets (s : State) (t : Nat) (f : HeldRead → HeldRead)
    (h : ∀ e, (f e).ticket = e.ticket) : (s.updEntry t f).tickets = s.tickets := by
  refine map_tickets s _ (fun e => ?_) _ rfl
  split
  · exact h e
  · rfl

section Operations

variable (s : State)

/-! #### Flags -/

@[simp] theorem queueRecord_still (r : RecordId) : (s.queueRecord r).still = s.still := rfl
@[simp] theorem latch_still (i : StreamId) (e : StreamEvent) : (s.latch i e).still = s.still := rfl
@[simp] theorem latchDevice_still (e : DeviceEvent) : (s.latchDevice e).still = s.still := rfl
@[simp] theorem count_still (i : StreamId) (c : StreamCounter) : (s.count i c).still = s.still := rfl
@[simp] theorem countDevice_still (c : DeviceCounter) : (s.countDevice c).still = s.still := rfl
@[simp] theorem clearStreamCounters_still (i : StreamId) : (s.clearStreamCounters i).still = s.still := rfl
@[simp] theorem clearDeviceCounters_still : s.clearDeviceCounters.still = s.still := rfl
@[simp] theorem setStreamState_still (i : StreamId) (x : StreamState) :
    (s.setStreamState i x).still = s.still := rfl

@[simp] theorem queueRecord_tickets (r : RecordId) : (s.queueRecord r).tickets = s.tickets := rfl
@[simp] theorem latch_tickets (i : StreamId) (e : StreamEvent) : (s.latch i e).tickets = s.tickets := rfl
@[simp] theorem latchDevice_tickets (e : DeviceEvent) : (s.latchDevice e).tickets = s.tickets := rfl
@[simp] theorem count_tickets (i : StreamId) (c : StreamCounter) : (s.count i c).tickets = s.tickets := rfl
@[simp] theorem countDevice_tickets (c : DeviceCounter) : (s.countDevice c).tickets = s.tickets := rfl
@[simp] theorem clearStreamCounters_tickets (i : StreamId) :
    (s.clearStreamCounters i).tickets = s.tickets := rfl
@[simp] theorem clearDeviceCounters_tickets : s.clearDeviceCounters.tickets = s.tickets := rfl
@[simp] theorem setStreamState_tickets (i : StreamId) (x : StreamState) :
    (s.setStreamState i x).tickets = s.tickets := rfl

/-! #### The held-read table and the heads -/

@[simp] theorem updEntry_still (t : Nat) (f : HeldRead → HeldRead) : (s.updEntry t f).still = s.still := rfl
@[simp] theorem answerError_still (t : Nat) : (s.answerError t).still = s.still := rfl
@[simp] theorem answerError_tickets (t : Nat) : (s.answerError t).tickets = s.tickets :=
  updEntry_tickets s t _ fun _ => rfl
@[simp] theorem failStream_still (i : StreamId) : (s.failStream i).still = s.still := rfl
@[simp] theorem failStream_tickets (i : StreamId) : (s.failStream i).tickets = s.tickets := by
  refine map_tickets s _ (fun e => ?_) _ rfl
  split <;> rfl
@[simp] theorem refreshHeads_still (i : StreamId) : (s.refreshHeads i).still = s.still := rfl
@[simp] theorem refreshHeads_tickets (i : StreamId) : (s.refreshHeads i).tickets = s.tickets := rfl
@[simp] theorem enterIdle_still (i : StreamId) : (s.enterIdle i).still = s.still := by simp [State.enterIdle]
@[simp] theorem enterIdle_tickets (i : StreamId) : (s.enterIdle i).tickets = s.tickets := by
  simp [State.enterIdle]
@[simp] theorem enterHalted_still (i : StreamId) : (s.enterHalted i).still = s.still := by
  simp [State.enterHalted]
@[simp] theorem enterHalted_tickets (i : StreamId) : (s.enterHalted i).tickets = s.tickets := by
  simp [State.enterHalted]
@[simp] theorem drainCheck_still (i : StreamId) : (s.drainCheck i).still = s.still := by
  unfold State.drainCheck; split <;> simp
@[simp] theorem drainCheck_tickets (i : StreamId) : (s.drainCheck i).tickets = s.tickets := by
  unfold State.drainCheck; split <;> simp
@[simp] theorem consume_still (i : StreamId) : (s.consume i).still = s.still := by simp [State.consume]
@[simp] theorem consume_tickets (i : StreamId) : (s.consume i).tickets = s.tickets := by
  simp [State.consume]
@[simp] theorem setSegRecord_still (i : StreamId) (j k : Nat) (r : SegRecord) :
    (s.setSegRecord i j k r).still = s.still := rfl
@[simp] theorem setSegRecord_tickets (i : StreamId) (j k : Nat) (r : SegRecord) :
    (s.setSegRecord i j k r).tickets = s.tickets := rfl
@[simp] theorem initRecords_still (i : StreamId) : (s.initRecords i).still = s.still := rfl
@[simp] theorem initRecords_tickets (i : StreamId) : (s.initRecords i).tickets = s.tickets := rfl

/-! #### Meters and permit times -/

@[simp] theorem deferEntry_still (e : HeldRead) : (s.deferEntry e).still = s.still := by
  unfold State.deferEntry; split <;> simp
@[simp] theorem deferEntry_tickets (e : HeldRead) : (s.deferEntry e).tickets = s.tickets := by
  unfold State.deferEntry; split <;> simp [updEntry_tickets]
@[simp] theorem testPermit_still (e : HeldRead) : (s.testPermit e).still = s.still := by
  simp only [State.testPermit]; split <;> simp
@[simp] theorem testPermit_tickets (e : HeldRead) : (s.testPermit e).tickets = s.tickets := by
  simp only [State.testPermit]; split <;> simp [updEntry_tickets]
@[simp] theorem retestPermit_still (e : HeldRead) : (s.retestPermit e).still = s.still := by
  simp only [State.retestPermit]
  split <;> simp
@[simp] theorem retestPermit_tickets (e : HeldRead) : (s.retestPermit e).tickets = s.tickets := by
  simp only [State.retestPermit]
  split <;> simp [updEntry_tickets]
@[simp] theorem retestStream_still (i : StreamId) : (s.retestStream i).still = s.still :=
  foldl_keeps retestPermit_still _ _
@[simp] theorem retestStream_tickets (i : StreamId) : (s.retestStream i).tickets = s.tickets :=
  foldl_keeps retestPermit_tickets _ _
@[simp] theorem chargeMeter_still (i : StreamId) (p : Path) : (s.chargeMeter i p).still = s.still := by
  simp only [State.chargeMeter]
  rw [foldl_keeps testPermit_still]; simp
@[simp] theorem chargeMeter_tickets (i : StreamId) (p : Path) : (s.chargeMeter i p).tickets = s.tickets := by
  simp only [State.chargeMeter]
  rw [foldl_keeps testPermit_tickets]; simp
@[simp] theorem makeEligible_still (t : Nat) : (s.makeEligible t).still = s.still := by
  unfold State.makeEligible
  split
  · rfl
  · split <;> simp
@[simp] theorem makeEligible_tickets (t : Nat) : (s.makeEligible t).tickets = s.tickets := by
  unfold State.makeEligible
  split
  · rfl
  · split <;> simp [updEntry_tickets]
@[simp] theorem takeApply_still (i : StreamId) (f : Nat) : (s.takeApply i f).still = s.still := by
  unfold State.takeApply
  split
  · rfl
  · split <;> simp
@[simp] theorem takeApply_tickets (i : StreamId) (f : Nat) : (s.takeApply i f).tickets = s.tickets := by
  unfold State.takeApply
  split
  · rfl
  · split <;> simp

/-! #### Echoes and margins -/

@[simp] theorem echoLost_still (p : Path) : (s.echoLost p).still = s.still := rfl
@[simp] theorem echoLost_tickets (p : Path) : (s.echoLost p).tickets = s.tickets := rfl
@[simp] theorem echoMakeRoom_still (p : Path) : (s.echoMakeRoom p).still = s.still := by
  unfold State.echoMakeRoom; split <;> simp
@[simp] theorem echoMakeRoom_tickets (p : Path) : (s.echoMakeRoom p).tickets = s.tickets := by
  unfold State.echoMakeRoom; split <;> simp
@[simp] theorem echoPush_still (p : Path) (e : EchoEntry) : (s.echoPush p e).still = s.still := by
  simp [State.echoPush]
@[simp] theorem echoPush_tickets (p : Path) (e : EchoEntry) : (s.echoPush p e).tickets = s.tickets := by
  simp [State.echoPush]
@[simp] theorem pairEcho_still (p : Path) (e : EchoEntry) : (s.pairEcho p e).still = s.still := by
  simp only [State.pairEcho]; split <;> simp
@[simp] theorem pairEcho_tickets (p : Path) (e : EchoEntry) : (s.pairEcho p e).tickets = s.tickets := by
  simp only [State.pairEcho]; split <;> simp
@[simp] theorem echoLostTimes_still (p : Path) (n : Nat) : (s.echoLostTimes p n).still = s.still := by
  induction n generalizing s with
  | zero => rfl
  | succ n ih => rw [State.echoLostTimes, ih]; simp
@[simp] theorem echoLostTimes_tickets (p : Path) (n : Nat) : (s.echoLostTimes p n).tickets = s.tickets := by
  induction n generalizing s with
  | zero => rfl
  | succ n ih => rw [State.echoLostTimes, ih]; simp
@[simp] theorem echoStrobe_still (p : Path) (t : Tag) : (s.echoStrobe p t).still = s.still := by
  unfold State.echoStrobe
  split
  · rfl
  · split <;> simp
@[simp] theorem echoStrobe_tickets (p : Path) (t : Tag) : (s.echoStrobe p t).tickets = s.tickets := by
  unfold State.echoStrobe
  split
  · rfl
  · split <;> simp
@[simp] theorem markEchoPast_still (i : StreamId) : (s.markEchoPast i).still = s.still := rfl
@[simp] theorem markEchoPast_tickets (i : StreamId) : (s.markEchoPast i).tickets = s.tickets := rfl
@[simp] theorem marginSample_still (i : StreamId) (m : Nat) : (s.marginSample i m).still = s.still := by
  simp only [State.marginSample]
  split
  · simp
  · split <;> simp
@[simp] theorem marginSample_tickets (i : StreamId) (m : Nat) : (s.marginSample i m).tickets = s.tickets := by
  simp only [State.marginSample]
  split
  · simp
  · split <;> simp

/-! #### Fill accounting -/

@[simp] theorem accountTouch_still (i : StreamId) (t : Touch) : (s.accountTouch i t).still = s.still := by
  simp only [State.accountTouch]; split <;> simp
@[simp] theorem accountTouch_tickets (i : StreamId) (t : Touch) :
    (s.accountTouch i t).tickets = s.tickets := by
  simp only [State.accountTouch]; split <;> simp
@[simp] theorem accountWrite_still (i : StreamId) (a : Nat) (d : List Byte) :
    (s.accountWrite i a d).still = s.still := foldl_keeps (fun s t => accountTouch_still s i t) _ _
@[simp] theorem accountWrite_tickets (i : StreamId) (a : Nat) (d : List Byte) :
    (s.accountWrite i a d).tickets = s.tickets := foldl_keeps (fun s t => accountTouch_tickets s i t) _ _
@[simp] theorem accountAll_still (a : Nat) (d : List Byte) : (s.accountAll a d).still = s.still := by
  refine foldl_keeps (fun s i => ?_) _ _
  dsimp only
  split <;> simp
@[simp] theorem accountAll_tickets (a : Nat) (d : List Byte) : (s.accountAll a d).tickets = s.tickets := by
  refine foldl_keeps (fun s i => ?_) _ _
  dsimp only
  split <;> simp
@[simp] theorem presentGrant_still (i : StreamId) (p : Path) (l k : Nat) :
    (s.presentGrant i p l k).2.2.still = s.still := by
  simp only [State.presentGrant]; split <;> simp
@[simp] theorem presentGrant_tickets (i : StreamId) (p : Path) (l k : Nat) :
    (s.presentGrant i p l k).2.2.tickets = s.tickets := by
  simp only [State.presentGrant]; split <;> simp

/-! #### Forwarders -/

@[simp] theorem sendReady_still (b : SendBody) : (s.sendReady b).still = s.still := rfl
@[simp] theorem sendReady_tickets (b : SendBody) : (s.sendReady b).tickets = s.tickets := rfl
@[simp] theorem forwardRead_still (r : Released) : (s.forwardRead r).still = s.still := by
  unfold State.forwardRead; split <;> simp
@[simp] theorem forwardRead_tickets (r : Released) : (s.forwardRead r).tickets = s.tickets := by
  unfold State.forwardRead; split <;> simp
@[simp] theorem unblock_still : s.unblock.still = s.still := by
  simp only [State.unblock]
  rw [foldl_keeps fun s (b : Blocked) => sendReady_still s (.released b.read)]; simp
@[simp] theorem unblock_tickets : s.unblock.tickets = s.tickets := by
  simp only [State.unblock]
  rw [foldl_keeps fun s (b : Blocked) => sendReady_tickets s (.released b.read)]; simp
@[simp] theorem grantSource_still (x : Source) : (s.grantSource x).still = s.still := by
  simp only [State.grantSource]; split <;> split <;> simp
@[simp] theorem grantSource_tickets (x : Source) : (s.grantSource x).tickets = s.tickets := by
  simp only [State.grantSource]; split <;> split <;> simp
@[simp] theorem memoryGrant_still : s.memoryGrant.still = s.still := by
  unfold State.memoryGrant; split <;> simp
@[simp] theorem memoryGrant_tickets : s.memoryGrant.tickets = s.tickets := by
  unfold State.memoryGrant; split <;> simp

/-! #### The grant -/

/-- R75: a grant uses the policy of the active copy. -/
@[simp] theorem grantPolicy_eq (e : HeldRead) : s.grantPolicy e = (s.stream e.stream).active.policy := rfl

@[simp] theorem decideGrant_still (e : HeldRead) (a : Assigned) :
    (s.decideGrant e a).2.still = s.still := by
  have h := presentGrant_still s e.stream e.path a.line a.seg
  simp only [State.decideGrant]
  split
  · split <;> simp_all
  · rfl
@[simp] theorem decideGrant_tickets (e : HeldRead) (a : Assigned) :
    (s.decideGrant e a).2.tickets = s.tickets := by
  have h := presentGrant_tickets s e.stream e.path a.line a.seg
  simp only [State.decideGrant]
  split
  · split <;> simp_all
  · rfl
@[simp] theorem handOff_still (e : HeldRead) (a : Assigned) (d : Decision) :
    (s.handOff e a d).still = s.still := by
  simp only [State.handOff]
  split
  · split
    · split <;> simp
    · simp
  · rfl
@[simp] theorem handOff_tickets (e : HeldRead) (a : Assigned) (d : Decision) :
    (s.handOff e a d).tickets = s.tickets := by
  simp only [State.handOff]
  split
  · split
    · split <;> simp
    · simp
  · rfl
@[simp] theorem noteUnderrun_still (i : StreamId) (o : ReadOutcome) :
    (s.noteUnderrun i o).still = s.still := by
  unfold State.noteUnderrun; split <;> simp
@[simp] theorem noteUnderrun_tickets (i : StreamId) (o : ReadOutcome) :
    (s.noteUnderrun i o).tickets = s.tickets := by
  unfold State.noteUnderrun; split <;> simp
@[simp] theorem forwardGranted_still (e : HeldRead) (o : ReadOutcome) :
    (s.forwardGranted e o).still = s.still := by
  unfold State.forwardGranted; split <;> simp
@[simp] theorem forwardGranted_tickets (e : HeldRead) (o : ReadOutcome) :
    (s.forwardGranted e o).tickets = s.tickets := by
  unfold State.forwardGranted; split <;> simp
@[simp] theorem grant_still (e : HeldRead) : (s.grant e).still = s.still := by
  unfold State.grant; split <;> simp
@[simp] theorem grant_tickets (e : HeldRead) : (s.grant e).tickets = s.tickets := by
  unfold State.grant; split <;> simp [updEntry_tickets]
@[simp] theorem arbitrateTimes_still (p : Path) (n : Nat) : (s.arbitrateTimes p n).still = s.still := by
  induction n generalizing s with
  | zero => rfl
  | succ n ih => unfold State.arbitrateTimes; split <;> simp [ih]
@[simp] theorem arbitrateTimes_tickets (p : Path) (n : Nat) :
    (s.arbitrateTimes p n).tickets = s.tickets := by
  induction n generalizing s with
  | zero => rfl
  | succ n ih => unfold State.arbitrateTimes; split <;> simp [ih]
@[simp] theorem wake_still (p : Path) : (s.wake p).still = s.still :=
  foldl_keeps (fun s (e : HeldRead) => makeEligible_still s e.ticket) _ _
@[simp] theorem wake_tickets (p : Path) : (s.wake p).tickets = s.tickets :=
  foldl_keeps (fun s (e : HeldRead) => makeEligible_tickets s e.ticket) _ _
@[simp] theorem arbitrate_still (p : Path) : (s.arbitrate p).still = s.still := by simp [State.arbitrate]
@[simp] theorem arbitrate_tickets (p : Path) : (s.arbitrate p).tickets = s.tickets := by
  simp [State.arbitrate]
@[simp] theorem arbitrateBoth_still : s.arbitrateBoth.still = s.still := by
  simp only [State.arbitrateBoth]
  split
  · split <;> simp
  · simp
@[simp] theorem arbitrateBoth_tickets : s.arbitrateBoth.tickets = s.tickets := by
  simp only [State.arbitrateBoth]
  split
  · split <;> simp
  · simp

/-! #### Assignment -/

@[simp] theorem surplus_still (e : HeldRead) : (s.surplus e).still = s.still := by simp [State.surplus]
@[simp] theorem surplus_tickets (e : HeldRead) : (s.surplus e).tickets = s.tickets := by
  simp [State.surplus]
@[simp] theorem dropRead_still (e : HeldRead) : (s.dropRead e).still = s.still := by simp [State.dropRead]
@[simp] theorem dropRead_tickets (e : HeldRead) : (s.dropRead e).tickets = s.tickets := by
  simp [State.dropRead]
@[simp] theorem setDrop_still (i : StreamId) (p : Path) (d : Option Nat) :
    (s.setDrop i p d).still = s.still := rfl
@[simp] theorem setDrop_tickets (i : StreamId) (p : Path) (d : Option Nat) :
    (s.setDrop i p d).tickets = s.tickets := rfl
@[simp] theorem advance_still (i : StreamId) (p : Path) (x : NextPos) :
    (s.advance i p x).still = s.still := rfl
@[simp] theorem advance_tickets (i : StreamId) (p : Path) (x : NextPos) :
    (s.advance i p x).tickets = s.tickets := rfl
@[simp] theorem noteLate_still (i : StreamId) (r : Nat) : (s.noteLate i r).still = s.still := by
  unfold State.noteLate; split <;> simp
@[simp] theorem noteLate_tickets (i : StreamId) (r : Nat) : (s.noteLate i r).tickets = s.tickets := by
  unfold State.noteLate; split <;> simp
@[simp] theorem noteSequence_still (i : StreamId) (p : Path) (m : Bool) :
    (s.noteSequence i p m).still = s.still := by
  unfold State.noteSequence; split <;> simp
@[simp] theorem noteSequence_tickets (i : StreamId) (p : Path) (m : Bool) :
    (s.noteSequence i p m).tickets = s.tickets := by
  unfold State.noteSequence; split <;> simp
@[simp] theorem haltCheck_still (i : StreamId) (p : Path) : (s.haltCheck i p).still = s.still := by
  unfold State.haltCheck; split <;> simp
@[simp] theorem haltCheck_tickets (i : StreamId) (p : Path) : (s.haltCheck i p).tickets = s.tickets := by
  unfold State.haltCheck; split <;> simp
@[simp] theorem placeRead_still (e : HeldRead) (a : Assigned) : (s.placeRead e a).still = s.still := by
  unfold State.placeRead
  dsimp only
  split <;> simp
@[simp] theorem placeRead_tickets (e : HeldRead) (a : Assigned) :
    (s.placeRead e a).tickets = s.tickets := by
  simp only [State.placeRead]; split <;> simp [updEntry_tickets]
@[simp] theorem judge_still (e : HeldRead) (a : Assigned) (d : Option Nat) :
    (s.judge e a d).still = s.still := by
  simp only [State.judge]
  split
  · simp
  · split
    · simp
    · split <;> simp
@[simp] theorem judge_tickets (e : HeldRead) (a : Assigned) (d : Option Nat) :
    (s.judge e a d).tickets = s.tickets := by
  simp only [State.judge]
  split
  · simp
  · split
    · simp
    · split <;> simp
@[simp] theorem endFrame_still (e : HeldRead) (n : Nat) : (s.endFrame e n).still = s.still := by
  unfold State.endFrame; split <;> simp
@[simp] theorem endFrame_tickets (e : HeldRead) (n : Nat) : (s.endFrame e n).tickets = s.tickets := by
  unfold State.endFrame; split <;> simp
@[simp] theorem assign_still (e : HeldRead) : (s.assign e).still = s.still := by
  unfold State.assign
  split
  · rfl
  · split
    · rfl
    · simp only []
      split
      · split <;> simp
      · split <;> simp
@[simp] theorem assign_tickets (e : HeldRead) : (s.assign e).tickets = s.tickets := by
  unfold State.assign
  split
  · rfl
  · split
    · rfl
    · simp only []
      split
      · split <;> simp
      · split <;> simp
@[simp] theorem assignHeld_still (e : HeldRead) : (s.assignHeld e).still = s.still := by
  unfold State.assignHeld; split <;> simp
@[simp] theorem assignHeld_tickets (e : HeldRead) : (s.assignHeld e).tickets = s.tickets := by
  unfold State.assignHeld; split <;> simp
@[simp] theorem releaseReached_still (t : Nat) : (s.releaseReached t).still = s.still := by
  unfold State.releaseReached
  split
  · rfl
  · split <;> simp
@[simp] theorem releaseReached_tickets (t : Nat) : (s.releaseReached t).tickets = s.tickets := by
  unfold State.releaseReached
  split
  · rfl
  · split <;> simp
@[simp] theorem permitReached_still (t : Nat) : (s.permitReached t).still = s.still := by
  unfold State.permitReached
  split
  · rfl
  · split <;> simp
@[simp] theorem permitReached_tickets (t : Nat) : (s.permitReached t).tickets = s.tickets := by
  unfold State.permitReached
  split
  · rfl
  · split <;> simp
@[simp] theorem beginStall_still : s.beginStall.still = s.still := by
  unfold State.beginStall; split <;> simp
@[simp] theorem beginStall_tickets : s.beginStall.tickets = s.tickets := by
  unfold State.beginStall; split <;> rfl
@[simp] theorem arrive_still (i : StreamId) (p : Path) (t : Tag) (a : Addr) (n j k : Nat) :
    (s.arrive i p t a n j k).still = s.still := by
  simp only [State.arrive]; split <;> simp

/-- An arrival adds one ticket, the next one, behind those of the table. -/
@[simp] theorem arrive_tickets (i : StreamId) (p : Path) (t : Tag) (a : Addr) (n j k : Nat) :
    (s.arrive i p t a n j k).tickets = s.tickets ++ [s.gate.nextTicket] := by
  have h : ∀ e : HeldRead, e.ticket = s.gate.nextTicket →
      (s.withGate { s.gate with held := s.gate.held ++ [e], nextTicket := s.gate.nextTicket + 1 }).tickets =
        s.tickets ++ [s.gate.nextTicket] := by
    intro e he
    simp [State.tickets, he]
  simp only [State.arrive]
  split
  · exact h _ rfl
  · exact h _ rfl
  · rw [assign_tickets]; exact h _ rfl
  · rw [assign_tickets]; exact h _ rfl
  · rw [assign_tickets]; exact h _ rfl
  · rw [answerError_tickets]; exact h _ rfl

/-! #### The Stream Controller -/

@[simp] theorem markHeldPast_still (i : StreamId) : (s.markHeldPast i).still = s.still := rfl
@[simp] theorem markHeldPast_tickets (i : StreamId) : (s.markHeldPast i).tickets = s.tickets := by
  refine map_tickets s _ (fun e => ?_) _ rfl
  split <;> rfl
@[simp] theorem armStream_still (i : StreamId) : (s.armStream i).still = s.still := by
  simp [State.armStream]
@[simp] theorem armStream_tickets (i : StreamId) : (s.armStream i).tickets = s.tickets := by
  simp [State.armStream]
@[simp] theorem completeAlign_still (i : StreamId) : (s.completeAlign i).still = s.still := by
  simp only [State.completeAlign]
  split
  · rw [arbitrateBoth_still, foldl_keeps assignHeld_still]; simp
  · rfl
@[simp] theorem completeAlign_tickets (i : StreamId) : (s.completeAlign i).tickets = s.tickets := by
  simp only [State.completeAlign]
  split
  · rw [arbitrateBoth_tickets, foldl_keeps assignHeld_tickets]; simp
  · rfl
@[simp] theorem startFrame_still (i : StreamId) (x : FrameRec) : (s.startFrame i x).still = s.still := rfl
@[simp] theorem startFrame_tickets (i : StreamId) (x : FrameRec) :
    (s.startFrame i x).tickets = s.tickets := rfl
@[simp] theorem startFirstFrame_still (i : StreamId) : (s.startFirstFrame i).still = s.still := by
  unfold State.startFirstFrame
  split
  · split <;> simp
  · rfl
@[simp] theorem startFirstFrame_tickets (i : StreamId) : (s.startFirstFrame i).tickets = s.tickets := by
  unfold State.startFirstFrame
  split
  · split <;> simp
  · rfl
@[simp] theorem nextFrameStart_still (i : StreamId) : (s.nextFrameStart i).still = s.still := by
  unfold State.nextFrameStart
  split
  · split <;> simp
  · rfl
@[simp] theorem nextFrameStart_tickets (i : StreamId) : (s.nextFrameStart i).tickets = s.tickets := by
  unfold State.nextFrameStart
  split
  · split <;> simp
  · rfl
@[simp] theorem beginDrain_still (i : StreamId) : (s.beginDrain i).still = s.still := by
  simp [State.beginDrain]
@[simp] theorem beginDrain_tickets (i : StreamId) : (s.beginDrain i).tickets = s.tickets := by
  simp [State.beginDrain]
@[simp] theorem abortStream_still (i : StreamId) : (s.abortStream i).still = s.still := by
  unfold State.abortStream; split <;> simp
@[simp] theorem abortStream_tickets (i : StreamId) : (s.abortStream i).tickets = s.tickets := by
  unfold State.abortStream; split <;> simp
@[simp] theorem drainTimeout_still (i : StreamId) : (s.drainTimeout i).still = s.still := by
  unfold State.drainTimeout; split <;> simp
@[simp] theorem drainTimeout_tickets (i : StreamId) : (s.drainTimeout i).tickets = s.tickets := by
  unfold State.drainTimeout; split <;> simp

end Operations

end Sys2Proof.Machine
end

