-- ==== Sys2Proof/WellFormed.lean ====
section
/-! DEFINITION. Which commands the outside world can send: the bounds that a command's operands keep and
their types do not say. -/
namespace Sys2Proof

/-- A fabric request carries a length of 1 to 4096 bytes (0.6). -/
def Access.wellFormed (a : Access) : Bool := 1 ≤ a.len && a.len ≤ 4096

/-- The data of an answer is the data of a request of 1 to 4096 bytes (0.6). -/
def Response.wellFormed : Response → Bool
  | .data d => 1 ≤ d.length && d.length ≤ 4096
  | .written => true
  | .error => true

/-- The ACTION words of the row UNKNOWN_ACTION_CODE (R154): a code of 0 or above 8, or a reserved field that
is not zero. -/
def unknownAction (w : BitVec 64) : Bool :=
  (w >>> 16 != 0) || (w.extractLsb' 0 8 == 0) || (8 < (w.extractLsb' 0 8).toNat)

/-- The check of a command's operands. -/
def Instr.wellFormed : Instr → Bool
  | .fillRequest _ a => a.wellFormed
  | .sendRequest _ _ a => a.wellFormed
  | .releasedReadReturn _ r => r.wellFormed
  | .memoryAnswer _ r => r.wellFormed
  | .readToClear _ r => r.wellFormed
  | .unknownActionCode w => unknownAction w
  | .resetAssert | .resetRelease _ | .partialCommandWord _ | .select _ | .dataNoSelection _
  | .streamFieldWrite _ | .carveWrite _ | .tagWrite _ | .pathEnableWrite _ | .pathFieldWrite _
  | .leadWrite _ | .referenceFieldWrite _ | .referenceEnableWrite _ | .masksWrite _ | .arm _ | .stop _
  | .abort _ | .abortAll _ | .apply _ | .clearCounters _ | .loadEpoch _ | .postDevice _
  | .alignCompletion _ | .firstFrameStart _ | .frameStart _ | .drainTimeout _ | .stall
  | .releaseTimeReached _ | .permitTimeReached _ | .pathFree _ | .answerComplete _ | .memoryPortGrant
  | .statusPosting | .refPulse | .pulseTimeout | .echoStrobe _ _ => true

end Sys2Proof
end

