-- ==== Sys2Proof/Tests/Slice0.lean ====
section
/-! SUPPORT. Tests: the checks of `WellFormed` refuse what they should, each command does on a small state what the
manual's worked examples and tables say, and for each statement that has hypotheses a concrete state and
operands meet all of them together. Expected values are the manual's own or worked by hand from its rules. -/
namespace Sys2Proof.Tests

open Sys2Proof Sys2Proof.Machine

/-! ### WellFormed refuses what is ill formed -/

theorem test_fill_request_of_no_bytes_refused :
    (Instr.fillRequest 0 (.read 0)).wellFormed = false := by decide

theorem test_fill_write_of_no_bytes_refused :
    (Instr.fillRequest 0 (.write [])).wellFormed = false := by decide

theorem test_send_request_too_long_refused :
    (Instr.sendRequest 0 0 (.read 4097)).wellFormed = false := by decide

theorem test_send_request_longest_accepted :
    (Instr.sendRequest 0 0 (.read 4096)).wellFormed = true := by decide

theorem test_memory_answer_of_no_bytes_refused :
    (Instr.memoryAnswer 0 (.data [])).wellFormed = false := by decide

theorem test_released_return_of_no_bytes_refused :
    (Instr.releasedReadReturn 0 (.data [])).wellFormed = false := by decide

theorem test_read_to_clear_of_no_bytes_refused :
    (Instr.readToClear 0 (.data [])).wellFormed = false := by decide

theorem test_known_action_code_refused :
    (Instr.unknownActionCode 0x0308#64).wellFormed = false := by decide

theorem test_unknown_action_codes_accepted :
    (Instr.unknownActionCode 0#64).wellFormed = true ∧ (Instr.unknownActionCode 9#64).wellFormed = true ∧
      (Instr.unknownActionCode 0x10001#64).wellFormed = true := by decide

/-! ### Small states -/

/-- The state after a command; no command is refused or faults. -/
def after (c : Instr) (s : State) : State :=
  match exec c s with
  | .next t => t
  | .fault _ => s
  | .refused _ => s

/-- The state after some commands. -/
def run (s : State) (cs : List Instr) : State := cs.foldl (fun s c => after c s) s

/-- The state with the time base reading another value. -/
def atTime (t : Nat) (s : State) : State := s.withTime { s.time with now := t }

/-- A SELECT word of a kind, an index and a start field. -/
def selectWord (kind index field : Nat) : Instr := .select (BitVec.ofNat 64 (kind + 256 * index + 65536 * field))

/-- T, the start of frame 299,701 of the stream of Sections 1, 2 and 12. -/
abbrev T0 : Nat := 5000011683333

/-- The staged and active record of that stream (1.11, 12.6). -/
def params3 : Params :=
  { windowBase := 0x4000000000, lineStride := 4864, segStride := 1216, segLen := 1200, segsPerLine := 4
    activeLines := 1080, totalLines := 1125, num := 1001000000, den := 60, pathSet := .bothAB
    skewB := 2000, policy := .pattern, fillWord := 0x10808010#32 }

/-- The record of frame 299,701 (2.2, worked figures). -/
def frame0 : FrameRec := { frame := 299701, start := T0, rem := 20 }

/-- The record of frame 299,702 (2.2, worked figures). -/
def frame1 : FrameRec := { frame := 299702, start := 5000028366666, rem := 40 }

/-- Position (299,701, 2) of Table "EVEN model" (2.3). -/
def pos2 : NextPos := { frame := frame0, n := 2, spacing := 7723, rem := 198400 }

/-- A stream of that record in a state, with a next position on each path where ALIGN has completed. -/
def stream3 (x : StreamState) (np : NextPos) : Stream :=
  if x = .idle then { staged := params3 }
  else
    { state := x, staged := params3, active := params3, ring := 128, tArm := 4999999000123
      offsets := [⟨if x = .aligning then none else some 299701, 0⟩]
      first := if x = .aligning then none else some ⟨299701, T0⟩
      fStop := if x = .draining then some 299701 else none
      clockNow := if x = .running ∨ x = .draining then some frame0 else none
      clockNext :=
        if x = .aligning then none else if x = .running ∨ x = .draining then some frame1 else some frame0
      acc := .both (some { next := if x = .aligning then none else some np, drop := none, head := 0 })
      qHead := some 0
      meters := .both (some { level := 0, updated := 4999999000123 })
      window := some ⟨0x4000000000, 622592⟩ }

/-- A path as 12.1 sets it up. -/
def path12 : PathState := { enable := true, byteTime := 320, overhead := 78, lead := 1500 }

/-- The part of 12.6 with stream 3 in a state and a next position, at an instant; nothing is pending. -/
def air (x : StreamState) (np : NextPos) (now : Nat) : State :=
  { State.reset with
    straps := 0x100#24
    time := { now := now }
    streams := (Vector.replicate 24 {}).set 3 (stream3 x np)
    paths := ⟨path12, path12⟩
    tags := ((Vector.replicate 64 none).set 12 (some (3, .A))).set 13 (some (3, .B))
    status := { updates := [] } }

/-- The entry that stands for path A's read of position (299,701, 0) (12.7), in a phase. -/
def read0 (x : Phase) (matched : Bool) : HeldRead :=
  { ticket := 0, stream := 3, path := .A, tag := 12, addr := 0x4000000000#40, len := 1200, readSlot := 0
    readSeg := 0
    assigned := some { frame := 299701, n := 0, line := 0, seg := 0, launch := T0, release := T0 - 1500
                       matched := matched }
    phase := x, outcome := none, snapshot := none, pastRun := false
    permit := if x = .eligible then some (T0 - 1500) else none
    deferred := false, answer := .undecided }

/-- The state with some held reads and segment records. -/
def holding (s : State) (held : List HeldRead) (segs : List (Nat × SegRecord)) : State :=
  { s with gate := { held := held, nextTicket := 1 }, segs := segs }

/-- The record of segment 0 of slot 0, its 1,200 bytes of line 0 written (4.13, 12.7). -/
def ready0 : SegRecord :=
  { seq := 0, bytes := 1200, writeSum := 143880#32, readyTime := some (T0 - 1950000), released := ⟨false, false⟩ }

/-- Path A's read of 12.7 at its release time, its segment ready. -/
def due : State := holding (air .armed pos2 (T0 - 1500)) [read0 .waiting true] [(1536, ready0)]

/-- The same with the entry already ELIGIBLE. -/
def eligible : State := holding (air .armed pos2 (T0 - 1500)) [read0 .eligible true] [(1536, ready0)]

/-! ### Commands -/

/-- R149: the release posts all 27 records, the summary first, and samples the straps. -/
theorem test_reset_release :
    (after (.resetRelease 0x100#24) State.reset).status.updates.length = 27 ∧
      (after (.resetRelease 0x100#24) State.reset).controlBase = 0x1000000 := by decide

/-- R87, R149: the assertion abandons the held reads. -/
theorem test_reset_assert : (after .resetAssert due).gate.held = [] ∧ (after .resetAssert due).inReset = true := by
  decide

/-- 10.7: SELECT kind 3, index 12, field 0. -/
theorem test_select :
    (after (selectWord 3 12 0) State.reset).decoder.sel = { target := .tag 12, next := 0 } := by decide

/-- 10.7: DATA 8 after the TAG selection has cleared is refused with NO_SELECTION and counted. -/
theorem test_data_no_selection :
    (run State.reset [selectWord 3 12 0, .tagWrite 7, .dataNoSelection 8]).decoder.echo.dataResult =
        .noSelection ∧
      (run State.reset [selectWord 3 12 0, .tagWrite 7, .dataNoSelection 8]).status.counters[7] = 1 := by
  decide

/-- 10.7: DATA 7 maps tag 12 to (3, A). -/
theorem test_tag_write : (run State.reset [selectWord 3 12 0, .tagWrite 7]).tags[12] = some (3, .A) := by decide

/-- R141: a partial word is refused with FORMAT. -/
theorem test_partial_command_word :
    (after (.partialCommandWord .select) State.reset).decoder.echo.selectResult = .format := by decide

/-- 1.11: window base 40_0000_0010h is stored as 40_0000_0000h, a clamped write. -/
theorem test_stream_field_write :
    ((run State.reset [selectWord 1 3 0, .streamFieldWrite 0x4000000010#64]).stream 3).staged.windowBase =
        0x4000000000 ∧
      (run State.reset [selectWord 1 3 0, .streamFieldWrite 0x4000000010#64]).decoder.echo.dataClamped =
        true := by decide

/-- 12.3: base[4] = 3,000 before base[5] is raised is refused with ORDER. -/
theorem test_carve_write_order :
    (run State.reset [selectWord 2 0 4, .carveWrite 3000]).decoder.echo.dataResult = .order := by decide

/-- 12.3: base[5] = 3,072, then base[4] = 2,560. -/
theorem test_carve_write :
    (run State.reset [selectWord 2 0 5, .carveWrite 3072, selectWord 2 0 4, .carveWrite 2560]).carve[4] =
      2560 := by decide

/-- R90: a path is enabled, and a path that an armed stream uses is not disabled. -/
theorem test_path_enable_write :
    (run State.reset [selectWord 4 1 0, .pathEnableWrite 1]).paths.b.enable = true ∧
      (run (air .armed pos2 T0) [selectWord 4 0 0, .pathEnableWrite 0]).decoder.echo.dataResult = .busy := by
  decide

/-- Table 5-1: a byte time below 20 ps is stored as 20. -/
theorem test_path_field_write :
    (run State.reset [selectWord 4 0 1, .pathFieldWrite 19]).paths.a.byteTime = 20 := by decide

/-- Table 7-1: a lead above 50,000 ns is stored as 50,000. -/
theorem test_lead_write : (run State.reset [selectWord 4 0 4, .leadWrite 50001]).paths.a.lead = 50000 := by
  decide

/-- R107: a lock window above the unlock window raises it. -/
theorem test_reference_field_write :
    (run State.reset [selectWord 5 0 2, .referenceFieldWrite 20000]).refRec.unlockWindow = 20000 := by decide

/-- R108: enable 1 with no epoch leaves the lock FREE. -/
theorem test_reference_enable_write :
    (run State.reset [selectWord 5 0 0, .referenceEnableWrite 1]).lock.state = .free ∧
      (run State.reset [selectWord 5 0 0, .referenceEnableWrite 1]).refRec.enable = true := by decide

/-- R153: bits outside the device mask's width are cleared. -/
theorem test_masks_write :
    (run State.reset [selectWord 6 0 24, .masksWrite 0xFFFF#64]).status.mask = 0x3FF#10 := by decide

/-- The part of 1.11 before its first ARM, but for the segment length. -/
def staged111 (segLen : Nat) : State :=
  (atTime 4999999000123 (air .idle pos2 0)).updStream 3 fun st =>
    { st with staged := { params3 with segLen := segLen, pathSet := .onlyA } }

/-- 1.11: the first ARM finds L above SS. -/
theorem test_arm_refused : (after (.arm 3) (staged111 1300)).decoder.echo.actionResult = .stride := by decide

/-- 1.11: the second ARM is accepted, with R = 128 and a window of 622,592 bytes. -/
theorem test_arm :
    ((after (.arm 3) (staged111 1200)).stream 3).ring = 128 ∧
      ((after (.arm 3) (staged111 1200)).stream 3).window = some ⟨0x4000000000, 622592⟩ := by
  decide

/-- R15: STOP of an IDLE stream is refused with STATE; of a RUNNING one it starts the drain. -/
theorem test_stop :
    (after (.stop 3) (air .idle pos2 T0)).decoder.echo.actionResult = .state ∧
      ((after (.stop 3) (air .running pos2 T0)).stream 3).fStop = some 299701 := by decide

/-- R18: ABORT takes the stream to IDLE and answers its held read with error. -/
theorem test_abort :
    ((after (.abort 3) due).stream 3).state = .idle ∧
      (after (.abort 3) due).gate.held.map (·.answer) = [.returning .error] := by decide

/-- R18, R154: ABORT_ALL takes operand 0 alone. -/
theorem test_abort_all :
    ((after (.abortAll 0) due).stream 3).state = .idle ∧
      (after (.abortAll 1) due).decoder.echo.actionResult = .index := by decide +kernel

/-- R42: f_apply is the frame after the highest in which a position has been assigned. -/
theorem test_apply :
    ((after (.apply 3) (air .running pos2 T0)).stream 3).pendingApply.bind (·.frame) = some 299702 := by
  decide

/-- R42: a read that holds its position at an APPLY is as it was, and so is the active copy. -/
theorem test_apply_changes_no_held_read :
    let s := holding (air .running pos2 T0) [read0 .waiting true] []
    (after (.apply 3) s).gate = s.gate ∧ ((after (.apply 3) s).stream 3).active = (s.stream 3).active := by decide

/-- R155: operand 24 clears the device counters. -/
theorem test_clear_counters :
    (run State.reset [.dataNoSelection 0, .clearCounters 24]).status.counters.toList = List.replicate 8 0 := by
  decide

/-- R155: the device record is queued. -/
theorem test_post_device : (after (.postDevice 0) (air .idle pos2 0)).status.updates = [.device, .echo] := by
  decide

/-- R154: code 9 is refused with FORMAT. -/
theorem test_unknown_action_code :
    (after (.unknownActionCode 9) State.reset).decoder.echo.actionResult = .format := by decide

/-- The part of 6.7 before LOAD_EPOCH. -/
def reference67 : State :=
  { State.reset with
    time := { now := 6999600000000 }
    refRec := { enable := true, nextPulse := 7000000000000 } }

/-- 6.7: LOAD_EPOCH in FREE with enable 1. -/
theorem test_load_epoch :
    (after (.loadEpoch 0) reference67).lock.state = .acquiring ∧
      (after (.loadEpoch 0) reference67).lock.deadline = some 7000500000000 := by decide

/-- 6.7: pulse 1, +1,200 ns. -/
theorem test_ref_pulse :
    (after .refPulse (atTime 7000000001200 (after (.loadEpoch 0) reference67))).lock.trim = -75 ∧
      (after .refPulse (atTime 7000000001200 (after (.loadEpoch 0) reference67))).lock.rate = -675 := by
  decide

/-- 6.8: an error of −312,000,000 ns with every stream IDLE steps the time base. -/
theorem test_ref_pulse_step :
    (after .refPulse (atTime 6999688000000 (after (.loadEpoch 0) reference67))).time.now = 7000000000000 := by
  decide

/-- 6.7: the timeout at the pulse deadline leaves the trim as the rate. -/
theorem test_pulse_timeout :
    (after .pulseTimeout
      { State.reset with
        time := { now := 7006500000000 }
        lock := { state := .locked, epoch := some 7000000000000, trim := -103, rate := -108
                  deadline := some 7006500000000 } }).lock.rate = -103 := by decide

/-- 2.2: f0 = 299,701 and its start. -/
theorem test_align_completion :
    ((after (.alignCompletion 3) (air .aligning pos2 4999999001000)).stream 3).first =
        some { frame := 299701, start := T0 } ∧
      ((after (.alignCompletion 3) (air .aligning pos2 4999999001000)).stream 3).clockNext = some frame0 := by
  decide

/-- 2.2: the step from frame 299,701 to 299,702. -/
theorem test_first_frame_start :
    ((after (.firstFrameStart 3) (air .armed pos2 T0)).stream 3).clockNext = some frame1 ∧
      ((after (.firstFrameStart 3) (air .armed pos2 T0)).stream 3).state = .running := by decide

/-- 2.2: the step from frame 299,702 to 299,703, with a carry. -/
theorem test_frame_start :
    ((after (.frameStart 3) (air .running pos2 5000028366666)).stream 3).clockNext =
      some { frame := 299703, start := 5000045050000, rem := 0 } := by decide

/-- R17: the drain timeout at T_299,702 plus the late limit, and not 1 ns before. -/
theorem test_drain_timeout :
    ((after (.drainTimeout 3) (air .draining pos2 5000029366666)).stream 3).state = .idle ∧
      ((after (.drainTimeout 3) (air .draining pos2 5000029366665)).stream 3).state = .draining := by
  decide

/-- 4.13: the read of segment 2 of slot 0 takes position (299,701, 2). -/
theorem test_send_request :
    ((after (.sendRequest 12 0x4000000980#40 (.read 1200)) (air .armed pos2 5000011670000)).gate.held.map
      fun e => (e.phase, e.assigned.map fun a => (a.launch, a.release, a.matched))) =
      [(.waiting, some (5000011691056, 5000011689556, true))] := by decide

/-- 9.7: a read of the tag that starts no segment is a stray, forwarded. -/
theorem test_send_request_stray :
    ((after (.sendRequest 12 0x4000006890#40 (.read 16)) (air .running pos2 T0)).stream 3).events = 0x2000#16 ∧
      (after (.sendRequest 12 0x4000006890#40 (.read 16)) (air .running pos2 T0)).gate.held = [] := by
  decide

/-- R68: a full table begins a stall episode, counted once. -/
theorem test_stall :
    (run (holding (air .armed pos2 T0) (List.replicate 48 (read0 .waiting true)) []) [.stall, .stall]).status.counters[0] =
      1 := by decide

/-- 12.7: path A grants (f0, 0) NORMAL at T − 1,500 and is busy until T − 1,091. -/
theorem test_release_time_reached :
    (after (.releaseTimeReached 0) due).gate.held.map (·.outcome) = [some .normal] ∧
      (after (.releaseTimeReached 0) due).paths.a.busyUntil = T0 - 1091 := by decide

/-- 12.7: the same grant takes the margin sample 1,948,500 and pushes the echo entry (12, 3, T). -/
theorem test_permit_time_reached :
    ((after (.permitTimeReached 0) eligible).stream 3).margin.trackers = some ⟨1948500, 1948500⟩ ∧
      (after (.permitTimeReached 0) eligible).paths.a.echoQueue = [⟨12, 3, T0, false⟩] := by decide

/-- 12.8: a read whose record holds 700 bytes is answered with the fill word under PATTERN. -/
theorem test_path_free :
    (after (.pathFree .A)
      (holding (air .armed pos2 (T0 - 1500)) [read0 .eligible true] [(1536, { ready0 with bytes := 700 })])).gate.held.map
        (·.outcome) = [some .underrunPattern] := by decide

/-- 4.13 and R80: a NORMAL read of 2 bytes, L = 2, that awaits memory with a snapshot of 3. -/
def awaiting : State :=
  { holding
      ((air .armed pos2 T0).updStream 3 fun st => { st with active := { st.active with segLen := 2 } })
      [{ read0 .forwarded true with
          len := 2, outcome := some .normal, snapshot := some 3, answer := .awaited }] [] with
    ports := { atMemory := [.released ⟨0, 12, 0x4000000000#40, 2, .A, T0 - 1500⟩] } }

/-- R80: data that sums to the snapshot raises nothing, other data raises CHECK. -/
theorem test_released_read_return :
    ((after (.releasedReadReturn 0 (.data [1, 2])) awaiting).stream 3).events = 0#16 ∧
      ((after (.releasedReadReturn 0 (.data [1, 3])) awaiting).stream 3).events = 256#16 := by decide

/-- R65: the entry leaves when its answer has been returned, and not before. -/
theorem test_answer_complete :
    (run awaiting [.releasedReadReturn 0 .error, .answerComplete 0]).gate.held = [] ∧
      (run awaiting [.answerComplete 0]).gate.held.length = 1 := by decide

/-- R162, R163: the summary record is posted first, and goes to memory when its source is granted. -/
theorem test_status_posting_and_memory_port_grant :
    (after .statusPosting State.reset).ports.statusSource.map (fun p => (p.addr, p.bytes.length)) =
        some (0x1000, 64) ∧
      (run State.reset [.statusPosting, .memoryPortGrant]).ports.atMemory.length = 1 := by decide

/-- A read of stream 3's event word that memory has not answered (11.6), UNDERRUN and TORN latched. -/
def clearing : State :=
  { (air .idle pos2 0).updStream 3 fun st => { st with events := 136#16 } with
    ports := { atMemory := [.fill ⟨0x1001280#40, .read 8, .readToClear⟩] } }

/-- 11.6: a read that returns {UNDERRUN} leaves {TORN}. -/
theorem test_read_to_clear :
    ((after (.readToClear 0 (.data [8, 0, 0, 0, 0, 0, 0, 0])) clearing).stream 3).events = 128#16 := by
  decide

/-- R142: an error answer clears nothing. -/
theorem test_memory_answer :
    ((after (.memoryAnswer 0 .error) clearing).stream 3).events = 136#16 ∧
      (after (.memoryAnswer 0 .error) clearing).ports.atMemory = [] := by decide

/-- 7.7, steps 1 and 2: an error of +240 ns moves the lead from 1,500 to 1,530 in AUTO. -/
theorem test_echo_strobe :
    (after (.echoStrobe .A 12)
      { air .running pos2 (T0 + 240) with
        paths := ⟨{ path12 with leadAuto := true, echoQueue := [⟨12, 3, T0, false⟩] }, path12⟩ }).paths.a.lead =
      1530 := by decide

/-- A stream of 3.8's kind, L = 4 and SS = 8, with both its segments of slot 0 empty. -/
def small38 : State :=
  { (air .armed pos2 T0).updStream 3 fun st =>
      { st with
        active := { st.active with windowBase := 0x100000, lineStride := 64, segStride := 8, segLen := 4
                                   segsPerLine := 2 }
        ring := 4, window := some ⟨0x100000, 256⟩ } with
    segs := [(1536, freshRecord 0 ⟨false, false⟩), (1537, freshRecord 0 ⟨false, false⟩)] }

/-- 3.8, steps 1 and 2: a write over a segment, its gap bytes and a part of the next. -/
theorem test_fill_request :
    (after (.fillRequest 0x100000#40 (.write [1, 2, 3, 4, 9, 9, 9, 9, 5, 6])) small38).segs.map
        (fun x => (x.1, x.2.bytes, x.2.writeSum)) = [(1536, 4, 10#32), (1537, 2, 11#32)] := by decide +kernel

/-- R141: a write of the SELECT and DATA words is taken word by word. -/
theorem test_fill_request_command :
    (after (.fillRequest 0x1000000#40 (.write (leBytes 8 0x0C03 ++ leBytes 8 15))) (air .idle pos2 0)).tags[12] =
      some (7, .A) := by decide

/-! ### Shared operations -/

/-- R77: fill word 1080_8010h and a read of 6 bytes. -/
theorem test_fill_bytes :
    fillBytes 0x10808010#32 0 6 = [0x10, 0x80, 0x80, 0x10, 0x10, 0x80] := by decide

/-- 8.7: samples 4 and 5, the alarm raised by the first of them. -/
theorem test_margin_track :
    (Margin.track { trackers := some ⟨1900000, 2099961⟩ } 420000 = ⟨420000, 2098321⟩) ∧
      (Margin.track { trackers := some ⟨420000, 2098321⟩, alarm := true } 1380000 = ⟨480000, 2098321⟩) := by
  decide

/-- 5.6: the permit time of the fifth read, t + 1,227 + 2,635. -/
theorem test_permit_time :
    ({ active := params3, meters := ⟨some ⟨3685961600, T0 + 1227⟩, none⟩ } : Stream).permitTime .A (T0 + 1227) =
      T0 + 3862 := by decide

/-- 2.6: q_head of the lagging-path cut. -/
theorem test_lagging_path : qHeadOf .bothAB 128 500 372 = 373 := by decide

/-- 5.2: the occupancy of 1,278 bytes at 320 ps. -/
theorem test_wire_time : path12.wireTime 1200 = 409 := by decide

/-- 5.5: class 0's last winner 4: stream 6 comes before stream 1, and stream 4 last. -/
theorem test_rotation :
    rotationDistance 4 6 < rotationDistance 4 1 ∧ rotationDistance 4 1 < rotationDistance 4 4 := by decide

/-! ### Witnesses

For each statement of Sys2Proof/Certificates/Slice0/Obligations.lean that has hypotheses, a concrete state and
operands that meet them, for each of its clauses where it has several. -/

theorem witness_step_runs_front_command : (State.reset.withPending [.stall]).pending = .stall :: [] := rfl

theorem witness_empty_queue_ticks :
    let s := air .running pos2 T0
    s.pending = [] ∧ s.inReset = false ∧ RateBounded s ∧ s.time.frac < 1000000000 ∧
      s.time.now + 2 ≤ 2 ^ 64 - 1 := by
  refine ⟨rfl, rfl, ⟨by decide, by decide, by decide, by decide⟩, by decide, by decide⟩

theorem witness_reset_line_stops_the_part :
    (after .resetAssert due).inReset = true ∧ Instr.stall ≠ .resetAssert ∧
      ∀ x, Instr.stall ≠ .resetRelease x := by
  refine ⟨by decide, by decide, by simp⟩

/-- Tables 10-2, 10-9: words on either side of each bound. -/
theorem witness_select_follows_its_table :
    State.reset.inReset = false ∧
      ∀ x ∈ [(0x01000001, ResultCode.format), (7, .format), (6, .done), (0x1801, .index), (0x1701, .done)
            , (0x150001, .index), (0x140001, .done), (0x4003, .index), (0x3F03, .done), (0x0204, .index)
            , (0x0104, .done), (0x1A0006, .index), (0x190006, .done), (0, .done), (0x0100, .index)],
        (after (.select (BitVec.ofNat 64 x.1)) State.reset).decoder.echo.selectResult = x.2 := by
  decide

theorem witness_partial_word_refused :
    State.reset.inReset = false ∧
      ∀ k ∈ [CommandWord.select, .data, .action],
        (after (.partialCommandWord k) State.reset).decoder.echo.count = 1 := by decide

theorem witness_data_without_selection_refused :
    State.reset.inReset = false ∧ State.reset.decoder.sel = { target := .none, next := 0 } := by decide

/-- The state of 12.6, stream 3 in a state, with a selection. -/
def selected (x : StreamState) (target : SelTarget) (next : Nat) : State :=
  { air x pos2 T0 with decoder := { sel := { target := target, next := next } } }

/-- Table 1-1: every field of the record has its range. -/
theorem witness_staged_field_stores_clamped_value :
    ∀ k : Fin 21, (selected .running (.stream 3) k.val).inReset = false ∧
      (selected .running (.stream 3) k.val).decoder.sel.target = .stream 3 ∧
      (paramRanges[(selected .running (.stream 3) k.val).decoder.sel.next]?).isSome = true := by decide

/-- R47: a base beside the stream on air, one out of order, and both ends of the table. -/
theorem witness_carve_write_checks_then_stores :
    (∀ k : Fin 24, (selected .running .carve k.val).inReset = false ∧
      (selected .running .carve k.val).decoder.sel = { target := .carve, next := k.val }) ∧
    (after (.carveWrite 1536) (selected .running .carve 3)).decoder.echo.dataResult = .busy ∧
    (after (.carveWrite 2048) (selected .running .carve 4)).decoder.echo.dataResult = .busy ∧
    (after (.carveWrite 513) (selected .running .carve 0)).decoder.echo.dataResult = .order ∧
    (after (.carveWrite 11263) (selected .running .carve 23)).decoder.echo.dataResult = .order ∧
    (after (.carveWrite 512) (selected .running .carve 0)).decoder.echo.dataResult = .done ∧
    (after (.carveWrite 12289) (selected .running .carve 23)).decoder.echo.dataResult = .done := by
  decide

/-- R143: a mapping of the stream on air, present or written, and one of an IDLE stream. -/
theorem witness_tag_write_checks_then_stores :
    (∀ g : Tag, (selected .halted (.tag g) 0).decoder.sel = { target := .tag g, next := 0 }) ∧
    (after (.tagWrite 0) (selected .halted (.tag 12) 0)).decoder.echo.dataResult = .busy ∧
    (after (.tagWrite 7) (selected .halted (.tag 63) 0)).decoder.echo.dataResult = .busy ∧
    (after (.tagWrite 49) (selected .halted (.tag 63) 0)).decoder.echo.dataResult = .done := by
  decide

theorem witness_path_enable_write_checks_use :
    (∀ p ∈ [Path.A, .B], (selected .running (.path p) 0).inReset = false ∧
      (selected .running (.path p) 0).decoder.sel = { target := .path p, next := 0 } ∧
      ∀ e ∈ (selected .running (.path p) 0).gate.held, e.path = p → e.phase ≠ .eligible) ∧
    (after (.pathEnableWrite 0) (selected .running (.path .B) 0)).decoder.echo.dataResult = .busy ∧
    (after (.pathEnableWrite 0) (selected .idle (.path .B) 0)).decoder.echo.dataResult = .done ∧ 2#64 ≠ 0 := by
  decide

/-- Tables 5-1, 7-1: fields 1 and 2 by PATH_FIELD_WRITE, 3 and 4 by LEAD_WRITE. -/
theorem witness_path_setting_stores_clamped_value :
    ∀ k ∈ [1, 2, 3, 4], (selected .running (.path .A) k).inReset = false ∧
      (selected .running (.path .A) k).decoder.sel.target = .path .A ∧
      1 ≤ (selected .running (.path .A) k).decoder.sel.next ∧
      (pathRanges[(selected .running (.path .A) k).decoder.sel.next]?).isSome = true := by decide

/-- R107: fields 1 to 5, and a lock window above the unlock window. -/
theorem witness_reference_field_stores_clamped_value :
    (∀ k ∈ [1, 2, 3, 4, 5], (selected .running .reference k).inReset = false ∧
      (selected .running .reference k).decoder.sel.target = .reference ∧
      1 ≤ (selected .running .reference k).decoder.sel.next ∧
      (selected .running .reference k).decoder.sel.next ≤ 5) ∧
    (selected .running .reference 2).refRec.lockWindow ≤ 10000000 ∧
    (selected .running .reference 2).refRec.unlockWindow < 10001 := by decide

/-- A reference lock in a state, with an epoch or without. -/
def lockIn (x : LockState) (epoch : Option Nat) : State :=
  { selected .idle .reference 0 with
    lock := { epoch := epoch, state := x }, refRec := { enable := true, nextPulse := T0 + 5 } }

theorem witness_reference_enable_moves_lock_state :
    ∀ x ∈ [LockState.free, .acquiring, .locked, .holdover], ∀ e ∈ [none, some T0],
      (lockIn x e).inReset = false ∧ (lockIn x e).decoder.sel = { target := .reference, next := 0 } ∧
        0 < (lockIn x e).refRec.interval ∧ (lockIn x e).lock.state = x ∧ (lockIn x e).lock.epoch = e := by
  decide

theorem witness_mask_write_moves_attention :
    ∀ f ∈ [0, 23, 24, 25], (selected .running .masks f).inReset = false ∧
      (selected .running .masks f).decoder.sel.target = .masks ∧
      (selected .running .masks f).decoder.sel.next ≤ 25 := by decide

/-- Table 10-3: the operands on either side of each bound, and the words of each kind that FORMAT refuses. -/
theorem witness_bad_action_word_refused :
    State.reset.inReset = false ∧ (24#8).toNat ≥ 24 ∧ (26#8).toNat ≥ 26 ∧ (1#8).toNat ≥ 1 ∧
      (0x10001#64).toNat / 65536 ≠ 0 ∧ (0#64).toNat % 256 = 0 ∧ 8 < (9#64).toNat % 256 ∧
      (after (.arm 24) State.reset).decoder.echo.actionResult = .index ∧
      (after (.clearCounters 26) State.reset).decoder.echo.actionResult = .index ∧
      (after (.clearCounters 25) State.reset).decoder.echo.actionResult = .done ∧
      (after (.loadEpoch 1) State.reset).decoder.echo.actionResult = .index := by decide

/-- The state of 1.11 with a change of the staged record of stream 3. -/
def stagedWith (f : Params → Params) : State :=
  (air .idle pos2 4999999000123).updStream 3 fun st => { st with staged := f params3 }

/-- R10: one state for each check, in the order of the checks. -/
theorem witness_arm_refused_by_first_failing_check :
    (3#8).toNat = (3 : StreamId).val ∧ (air .halted pos2 T0).inReset = false ∧
      armResult (air .halted pos2 T0) 3 = .state ∧
      armResult (stagedWith fun p => { p with num := 59999 }) 3 = .period ∧
      armResult (stagedWith fun p => { p with totalLines := 1079 }) 3 = .lines ∧
      armResult (stagedWith fun p => { p with segLen := 1217 }) 3 = .stride ∧
      armResult (stagedWith fun p => { p with lineStride := 4863 }) 3 = .stride ∧
      armResult (stagedWith fun p => { p with segsPerLine := 64, segStride := 64, segLen := 64
                                              activeLines := 8192, totalLines := 8192 }) 3 = .gap ∧
      armResult ((stagedWith id).withCarve (resetCarve.set 4 1543)) 3 = .ring ∧
      armResult (stagedWith fun p => { p with windowBase := 0x1000000 }) 3 = .window ∧
      armResult (stagedWith fun p => { p with windowBase := 0xFFFFFFFFC0 }) 3 = .window ∧
      armResult ((stagedWith id).withTags (Vector.replicate 64 none)) 3 = .path := by decide

theorem witness_arm_accepted_starts_run :
    (stagedWith id).inReset = false ∧ (3#8).toNat = (3 : StreamId).val ∧ armResult (stagedWith id) 3 = .done := by
  decide

/-- Stream 3 in each state. -/
theorem witness_stop_acts_by_state :
    ∀ x ∈ [StreamState.idle, .aligning, .armed, .running, .draining, .halted],
      (air x pos2 T0).inReset = false ∧ ((air x pos2 T0).stream 3).state = x := by decide

/-- The clause of RUNNING: position (299,701, 1) is the last assigned. -/
theorem witness_stop_highest_assigned : HighestAssigned ((air .running pos2 T0).stream 3) 299701 := by
  refine ⟨⟨⟨299701, T0⟩, rfl, by decide, .A, _, pos2, Or.inl rfl, rfl, rfl, Or.inl ⟨rfl, by decide⟩⟩, ?_⟩
  intro p a np _ ha hn
  cases p <;> (cases ha; cases hn; exact Or.inl (by decide))

/-- The clause of RUNNING: nothing has been assigned. -/
theorem witness_stop_none_assigned :
    NoneAssigned ((air .running (firstPos frame0) T0).stream 3) ∧
      ((air .running (firstPos frame0) T0).stream 3).clockNow = some frame0 := by
  refine ⟨?_, rfl⟩
  intro p a np _ ha hn
  cases p <;> (cases ha; cases hn; exact ⟨rfl, ⟨299701, T0⟩, rfl, rfl⟩)

/-- The clause of RUNNING: both paths stand at the start of frame 299,702 and hold nothing. -/
theorem witness_stop_drained_through : DrainedThrough (air .running (firstPos frame1) T0) 3 299701 := by
  intro p _
  refine ⟨?_, fun e he => absurd he List.not_mem_nil⟩
  cases p <;> exact ⟨firstPos frame1, rfl, by decide⟩

theorem witness_abort_takes_streams_to_idle :
    (3#8).toNat = (3 : StreamId).val ∧ due.inReset = false ∧ (due.stream 3).state ≠ .idle ∧
      ((air .idle pos2 T0).stream 3).state = .idle := by decide

/-- R7: the offset schedule with 1 entry and with 8. -/
theorem witness_apply_takes_live_fields :
    (3#8).toNat = (3 : StreamId).val ∧ (air .aligning pos2 T0).inReset = false ∧
      ((air .aligning pos2 T0).stream 3).state = .aligning ∧
      ((air .running pos2 T0).stream 3).state ≠ .aligning ∧
      ((air .running pos2 T0).stream 3).offsets.length < 8 ∧
      8 ≤ (((air .running pos2 T0).updStream 3 fun st =>
        { st with offsets := List.replicate 8 ⟨some 299701, 0⟩ }).stream 3).offsets.length ∧
      ((air .idle pos2 T0).stream 3).state = .idle := by decide

theorem witness_clear_counters_and_post_device :
    State.reset.inReset = false ∧ (0#8).toNat ≤ 25 ∧ (23#8).toNat ≤ 25 ∧ (24#8).toNat ≤ 25 ∧
      (25#8).toNat ≤ 25 := by decide

theorem witness_load_epoch_moves_lock_state :
    ∀ x ∈ [LockState.free, .acquiring, .locked, .holdover],
      (lockIn x none).inReset = false ∧ 0 < (lockIn x none).refRec.interval ∧
        (lockIn x none).lock.state = x ∧ (lockIn x none).refRec.enable = true := by decide

/-- No entry is held, so none is due. -/
theorem none_due_of_empty (s : State) (p : Path) (h : s.gate.held = []) : NoneDue s p := by
  intro e he
  rw [h] at he
  exact absurd he List.not_mem_nil

/-- No entry is held, so none can be granted. -/
theorem nothing_to_grant_of_empty (s : State) (h : s.gate.held = []) : NothingToGrant s := by
  refine ⟨fun p => none_due_of_empty s p h, ?_⟩
  intro e he
  rw [h] at he
  exact absurd he List.not_mem_nil

/-- R26: without held reads, and with two held on path A. -/
theorem witness_align_fixes_first_frame :
    let s := air .aligning pos2 4999999001000
    let e := { read0 .unassigned true with assigned := none }
    let two := holding s [e, { e with ticket := 1, addr := 0x40000004C0#40, readSeg := 1 }] []
    s.inReset = false ∧ (s.stream 3).state = .aligning ∧ (s.stream 3).offsets = [⟨none, 0⟩] ∧
      0 < (s.stream 3).active.num ∧ 0 < (s.stream 3).active.den ∧ s.gate.held = [] ∧ NothingToGrant s ∧
      (∀ x ∈ two.gate.held, x.stream = 3 ∧ x.path = .A ∧ x.phase = .unassigned) ∧
      ((after (.alignCompletion 3) two).stream 3).state = .armed :=
  ⟨rfl, rfl, rfl, by decide, by decide, rfl, nothing_to_grant_of_empty _ rfl, by decide, by decide⟩

/-- R14, R23: in ARMED at T, in RUNNING and DRAINING at the start of frame 299,702. -/
theorem witness_frame_start_steps_clock :
    ((air .armed pos2 T0).stream 3).state = .armed ∧
      ((air .armed pos2 T0).stream 3).clockNext =
        some ⟨299701, 299701 * params3.num / params3.den, 299701 * params3.num % params3.den⟩ ∧
      299701 * params3.num / params3.den ≤ (air .armed pos2 T0).time.now ∧
      (∀ x ∈ [StreamState.running, .draining],
        ((air x pos2 5000028366666).stream 3).state = x ∧
          ((air x pos2 5000028366666).stream 3).clockNext =
            some ⟨299702, 299702 * params3.num / params3.den, 299702 * params3.num % params3.den⟩ ∧
          299702 * params3.num / params3.den ≤ (air x pos2 5000028366666).time.now) ∧
      0 < params3.den := by decide

theorem witness_drain_timeout_ends_drain :
    let s := air .draining pos2 5000029366666
    s.inReset = false ∧ (s.stream 3).state = .draining ∧ (s.stream 3).fStop = some 299701 ∧
      (299701 + 1) * (s.stream 3).active.num / (s.stream 3).active.den + (s.stream 3).active.lateLimit ≤
        s.time.now := by decide

/-- R68: 48 entries, with and without a stall episode. -/
theorem witness_full_table_stalls_send_port :
    ∀ b ∈ [true, false],
      let s : State := { air .armed pos2 T0 with
        gate := { held := List.replicate 48 (read0 .waiting true), stalled := b, nextTicket := 48 } }
      s.inReset = false ∧ 48 ≤ s.gate.held.length ∧ s.gate.stalled = b := by decide

/-- R144: a mapped tag off a segment start, inside the window (a stray) and outside it. -/
theorem witness_ungated_send_request_forwarded :
    let s := air .running pos2 T0
    s.inReset = false ∧ s.gate.held.length < 48 ∧
      (s.ports.sendReady.filter fun y => match y.body with | .pass _ => true | .released _ => false).length < 64 ∧
      s.tags[12] = some (3, .A) ∧ (s.stream 3).segmentStart 0x4000006890 = none ∧
      (s.stream 3).segmentStart 0x5000000000 = none ∧
      (s.stream 3).window = some ⟨0x4000000000, 622592⟩ := by decide

/-- 9.7: the read of slot 5, segment 2, of tag 12. -/
theorem witness_gated_at (x : StreamState) (h : x ≠ .idle) :
    GatedAt (air x pos2 T0) 12 0x4000006880 3 .A 5 2 ∧ GatedAt (air x (firstPos frame1) T0) 12 0x4000006880 3 .A 5 2 := by
  cases x <;> first
    | exact absurd rfl h
    | exact ⟨⟨rfl, by decide, Or.inl rfl, rfl, by decide, by decide, by decide,
        by decide, by decide⟩, ⟨rfl, by decide, Or.inl rfl, rfl, by decide,
        by decide, by decide, by decide, by decide⟩⟩

/-- R34, R69, R70: in ALIGNING, in HALTED, and past f_stop in DRAINING. -/
theorem witness_gated_read_without_position :
    (∀ x ∈ [StreamState.aligning, .halted, .draining],
      let s := air x (firstPos frame1) T0
      s.inReset = false ∧ s.gate.held.length < 48 ∧ s.ports.passCount < 64 ∧
        ∀ y ∈ s.gate.held, y.ticket ≠ s.gate.nextTicket) ∧
    ((air .draining (firstPos frame1) T0).stream 3).fStop = some 299701 ∧
      299701 < (firstPos frame1).frame.frame ∧
      NothingToGrant (air .draining (firstPos frame1) T0) :=
  ⟨by decide, rfl, by decide, nothing_to_grant_of_empty _ rfl⟩

/-- A held-read table without entries. -/
theorem held_table_right_of_empty (s : State) (h : s.gate.held = []) : HeldTableRight s := by
  refine ⟨by simp [h], by simp [h], ?_⟩
  intro e he
  rw [h] at he
  exact absurd he List.not_mem_nil

/-- R29 to R37: position (299,701, 2), ahead of its release time, at it, and late, in each state that assigns. -/
theorem witness_gated_read_takes_position :
    (∀ x ∈ [StreamState.armed, .running, .draining], ∀ now ∈ [T0, 5000011689556, 5000012689556],
      let s := air x pos2 now
      s.inReset = false ∧ s.gate.held.length < 48 ∧ s.ports.passCount < 64 ∧
        (s.stream 3).pendingApply = none ∧ (s.stream 3).mismatches.a < 7 ∧
        ((s.stream 3).acc.a.bind fun a => a.next) = some pos2 ∧
        ((s.stream 3).acc.a.map fun a => a.drop) = some none ∧ (s.stream 3).qHead = some 0 ∧
        now ≤ 5000011689556 + (s.stream 3).active.lateLimit) ∧
    HeldTableRight (air .running pos2 T0) ∧ NothingToGrant (air .running pos2 T0) :=
  ⟨by decide, held_table_right_of_empty _ rfl, nothing_to_grant_of_empty _ rfl⟩

/-- R6, R8, R71: the same read with seven mismatches behind it that matches (slot 0, segment 2), with a record pending
for the next frame, and with a schedule whose first entry goes and whose first entry stays. -/
theorem witness_gated_read_takes_position_forms :
    (∀ g ∈ [299701, 299702],
      let s := (air .running pos2 T0).updStream 3 fun st =>
        { st with
          mismatches := ⟨7, 0⟩, pendingApply := some ⟨params3.live, some 299702⟩
          offsets := [⟨some 299700, 5⟩, ⟨some g, 0⟩] }
      s.inReset = false ∧ s.gate.held = [] ∧ (s.stream 3).mismatches.get .A = 7 ∧
        (2 = 0 % (s.stream 3).ring ∨ 0 = 0 % (s.stream 3).ring) ∧
        (s.stream 3).pendingApply.map (·.frame) = some (some 299702) ∧
        ((after (.sendRequest 12 0x4000000980#40 (.read 1200)) s).stream 3).offsets =
          if g = 299701 then [⟨some g, 0⟩] else [⟨some 299700, 5⟩, ⟨some g, 0⟩]) := by decide

/-- The state of 12.6 in RUNNING with path A's accumulator and q_head changed. -/
def dropping (drop : Option Nat) (qHead now : Nat) : State :=
  (air .running pos2 now).updStream 3 fun st =>
    { st with
      qHead := some qHead
      acc := { st.acc with a := some { next := some pos2, drop := drop, head := 0 } } }

/-- R35, R36: drop mode, a line before q_head, and a release time one more than the late limit ago. -/
theorem witness_gated_read_dropped :
    let a := dropping (some 299701) 0 T0
    let b := dropping none 1 T0
    let c := dropping none 0 5000012689557
    (∀ s ∈ [a.gate, b.gate, c.gate], s.held = []) ∧
      ((a.stream 3).acc.a.map fun x => x.drop) = some (some 299701) ∧
      (pos2.n / (b.stream 3).active.segsPerLine < (b.stream 3).qHead.getD 0) ∧
      5000011689556 + (c.stream 3).active.lateLimit < c.time.now := by decide

/-- R16, R83: in DRAINING the dropped read of the last position of frame f_stop ends the drain, and one of position
(299,701, 2) does not. -/
theorem test_drop_in_draining :
    let last : NextPos := { pos2 with n := 4319 }
    let s := fun np => (air .draining np 5000012689557).updStream 3 fun st =>
      { st with
        acc := ⟨some { next := some np, drop := some 299701, head := 0 },
          some { next := some (firstPos frame1), drop := none, head := 1080 }⟩ }
    ((after (.sendRequest 12 0x4000000000#40 (.read 1200)) (s last)).stream 3).state = .idle ∧
      ((after (.sendRequest 12 0x4000000000#40 (.read 1200)) (s pos2)).stream 3).state = .draining := by decide

/-- The state of 12.6 with seven mismatches in a row on path A. -/
def mismatched (x : StreamState) : State :=
  (air x pos2 T0).updStream 3 fun st => { st with mismatches := ⟨7, 0⟩ }

/-- R71, R72: the read of slot 5 (`witness_gated_at`), where position (299,701, 2) is of slot 0. -/
theorem witness_eighth_mismatch_halts :
    (∀ x ∈ [StreamState.armed, .running, .draining],
      let s := mismatched x
      s.inReset = false ∧ s.gate.held = [] ∧ s.ports.passCount < 64 ∧ (s.stream 3).mismatches.get .A = 7 ∧
        (s.stream 3).pendingApply = none ∧ ((s.stream 3).acc.a.bind fun a => a.next) = some pos2 ∧
        ((s.stream 3).acc.a.map fun a => a.drop) = some none ∧ (s.stream 3).qHead = some 0 ∧
        s.time.now < 5000011689556 ∧ 5 ≠ 0 % (s.stream 3).ring) ∧
    GatedAt (mismatched .running) 12 0x4000006880 3 .A 5 2 ∧ HeldTableRight (mismatched .running) ∧
      NothingToGrant (mismatched .running) :=
  ⟨by decide, ⟨rfl, by decide, Or.inl rfl, rfl, by decide, by decide, by decide, by decide, by decide⟩,
    held_table_right_of_empty _ rfl, nothing_to_grant_of_empty _ rfl⟩

/-- R19: the stream halts, and its read is answered with error. -/
theorem test_eighth_mismatch :
    let t := after (.sendRequest 12 0x4000006880#40 (.read 1200)) (mismatched .draining)
    (t.stream 3).state = .halted ∧ t.gate.held.map (·.answer) = [.returning .error] := by decide

/-- The state of 12.6 with a record pending for frame 299,701. -/
def applying (x : StreamState) : State :=
  (air x pos2 T0).updStream 3 fun st =>
    { st with pendingApply := some ⟨{ params3.live with launchOffset := 5000, lateLimit := 2000 }, some 299701⟩ }

/-- R8: the record is marked for the frame of the next position, taken in each state that assigns. -/
theorem witness_apply_taken_at_its_frame :
    (∀ x ∈ [StreamState.armed, .running, .draining],
      let s := applying x
      s.inReset = false ∧ s.gate.held = [] ∧ s.ports.passCount < 64 ∧
        ((s.stream 3).acc.a.bind fun a => a.next) = some pos2 ∧
        ((s.stream 3).pendingApply.bind fun r => r.frame) = some 299701 ∧
        ((s.stream 3).acc.a.map fun a => a.drop) = some none ∧ (s.stream 3).qHead = some 0 ∧
        s.time.now ≤ 5000011689556 + 5000 + 2000) ∧
    GatedAt (applying .running) 12 0x4000006880 3 .A 5 2 ∧ HeldTableRight (applying .running) :=
  ⟨by decide, ⟨rfl, by decide, Or.inl rfl, rfl, by decide, by decide, by decide, by decide, by decide⟩,
    held_table_right_of_empty _ rfl⟩

/-- R6, R8: the position's launch time has the new offset. -/
theorem test_apply_taken :
    let t := after (.sendRequest 12 0x4000006880#40 (.read 1200)) (applying .running)
    t.gate.held.map (·.release) = [5000011689556 + 5000] ∧ (t.stream 3).active.lateLimit = 2000 := by decide

/-- The entry of 12.7 is the table's only one. -/
theorem held_table_right_read0 (s : State) (x : Phase) (b : Bool) (h : s.gate = ⟨[read0 x b], false, 1⟩) :
    HeldTableRight s := by
  simp [HeldTableRight, h, read0]

/-- R73, R95, R100: path A busy and free, the meter of depth 4 below and above its allowance; no other entry. -/
theorem witness_release_time_makes_eligible :
    ∀ level ∈ [0, 3003000000, 3003000001], ∀ busy ∈ [T0, T0 - 1500],
      let s := (due.updPath .A fun x => { x with busyUntil := busy }).updStream 3 fun st =>
        { st with meters := .both (some ⟨level, T0 - 1500⟩) }
      s.inReset = false ∧ s.gate.held = [read0 .waiting true] ∧ (read0 .waiting true).phase = .waiting ∧
        (read0 .waiting true).release ≤ s.time.now ∧ (s.paths.get .A).busyUntil = busy ∧
        s.time.now = T0 - 1500 ∧ (s.paths.get .A).enable = true ∧
        (s.stream 3).meters.get .A = some ⟨level, T0 - 1500⟩ ∧ 0 < (s.stream 3).active.gapD := by decide

/-- R101: a read of stream 3, class 0, and a later one of stream 4, class 1, due at one instant on path A. -/
def twoDue : State :=
  let s := holding (air .armed pos2 (T0 - 1500))
    [read0 .waiting true, { read0 .waiting true with ticket := 1, stream := 4 }]
    [(1536, ready0), (2048, ready0)]
  s.updStream 4 fun _ => { stream3 .armed pos2 with active := { params3 with classOne := true } }

/-- R73, R101: whichever release time is taken first, both reads are ELIGIBLE at the choice, and class 1 wins. -/
theorem test_reads_due_at_one_instant :
    ∀ t ∈ [0, 1],
      (after (.releaseTimeReached t) twoDue).gate.held.map (·.phase) = [.eligible, .forwarded] := by decide

theorem eligible_is_for_grant : EligibleForGrant eligible (read0 .eligible true) :=
  ⟨List.mem_singleton.2 rfl, rfl, rfl, by decide, T0 - 1500, rfl, by decide⟩

/-- The one entry of `eligible` is in no other phase, so none is due. -/
theorem none_due_eligible (p : Path) : NoneDue eligible p := by
  intro e he _ h
  cases List.mem_singleton.1 he
  cases h

theorem witness_normal_grant_hands_on :
    HeldTableRight eligible ∧ EligibleForGrant eligible (read0 .eligible true) ∧ NoneDue eligible .A ∧
      (∀ x, EligibleForGrant eligible x → x.path = (read0 .eligible true).path → x = read0 .eligible true) ∧
      (eligible.stream 3).state = .armed ∧ 0 < (eligible.stream 3).active.gapD ∧
      lookupSeg eligible.segs (carveBase eligible.carve 3 + 0 % 128 * 4 + 0) = ready0 ∧
      ready0.seq = BitVec.ofNat 32 0 ∧ ready0.bytes = (eligible.stream 3).active.segLen :=
  ⟨held_table_right_read0 _ _ _ rfl, eligible_is_for_grant, none_due_eligible _,
    fun _ hx _ => List.mem_singleton.1 hx.1, rfl, by decide, by decide, rfl, rfl⟩

/-- The entry of 12.7 ELIGIBLE in DRAINING, both paths past f_stop. -/
def draining : State :=
  holding (air .draining (firstPos frame1) (T0 - 1500)) [read0 .eligible true] [(1536, ready0)]

/-- R16, R83: the last consumption ends the drain; the clauses of the statement on both sides of it. -/
theorem witness_normal_grant_ends_drain :
    DrainEnds (draining.stream 3)
      (draining.gate.held.filter fun y => decide (y.ticket ≠ (read0 .eligible true).ticket)) 3
      (draining.stream 3).nextOf ∧
    ¬DrainEnds (eligible.stream 3) [] 3 (eligible.stream 3).nextOf ∧
    ((after (.pathFree .A) draining).stream 3).state = .idle := by
  refine ⟨⟨rfl, 299701, rfl, fun p _ => ⟨?_, fun e he => absurd he List.not_mem_nil⟩⟩,
    (fun h => by cases h.1), by decide⟩
  cases p <;> exact ⟨firstPos frame1, rfl, by decide⟩

/-- R130, R147: the release of 12.7 gives the margin sample 1,950,000 - 1,500, and waits for an accounted fill write. -/
theorem test_normal_grant_margin_and_wait :
    let item : FillItem := ⟨0x4000000000, .write [1#8], .accounted⟩
    let s := { eligible with ports := { fillForwarder := [item, { item with cls := .pass }] } }
    let t := after (.pathFree .A) s
    ((t.stream 3).margin.trackers.map (·.fast)) = some 1948500 ∧ t.ports.sendReady = [] ∧
      t.ports.sendBlocked.map (·.wait) = [1] := by decide

/-- R76: a read that does not match, a record of another line, and one not yet READY, under each policy. -/
theorem witness_underrun_grant_follows_policy :
    (∀ policy ∈ [FillPolicy.stale, .pattern, .error],
      (((eligible.updStream 3 fun st => { st with active := { st.active with policy := policy } }).stream
        3).active.policy) = policy) ∧
    (read0 .eligible false).assigned.map (·.matched) = some false ∧
    ({ ready0 with seq := 128#32 }).seq ≠ BitVec.ofNat 32 0 ∧
    ({ ready0 with bytes := 1199 }).bytes ≠ (eligible.stream 3).active.segLen ∧
    0 < (eligible.stream 3).active.segLen ∧ 0 < (eligible.paths.get .A).byteTime := by decide

theorem witness_arbiter_chooses_by_release_time :
    HeldTableRight eligible ∧ eligible.winner .A = some (read0 .eligible true) :=
  ⟨held_table_right_read0 _ _ _ rfl, by decide⟩

/-- R99, R101: the commands that let path A choose, with an ELIGIBLE entry and with a due one. -/
theorem witness_arbiter_grants_ready_entries :
    (∀ s ∈ [eligible, due], s.inReset = false ∧ (s.paths.get .A).enable = true ∧
      (s.paths.get .A).busyUntil ≤ s.time.now ∧
      (∀ x ∈ s.gate.held, x.path = .A ∧ x.stream = 3 ∧ x.assigned.isSome = true ∧
        0 < (s.stream x.stream).active.gapD) ∧ (s.stream 3).state = .armed) ∧
    ReadyToGo eligible .A (read0 .eligible true) ∧ ReadyToGo due .A (read0 .waiting true) :=
  ⟨by decide, ⟨List.mem_singleton.2 rfl, rfl, Or.inl ⟨rfl, T0 - 1500, rfl, by decide⟩⟩,
    ⟨List.mem_singleton.2 rfl, rfl, Or.inr ⟨rfl, by decide, by decide⟩⟩⟩

/-- R79, R80: the answer of 2 bytes that the model's own test takes. -/
theorem witness_released_read_return_checks_sum :
    awaiting.inReset = false ∧ HeldTableRight awaiting ∧
      awaiting.ports.atMemory[0]? = some (.released ⟨0, 12, 0x4000000000#40, 2, .A, T0 - 1500⟩) ∧
      ∃ e ∈ awaiting.gate.held, e.ticket = 0 := by
  refine ⟨rfl, ?_, rfl, _, List.mem_singleton.2 rfl, rfl⟩
  simp [HeldTableRight, awaiting, holding, read0]

theorem witness_answer_complete_frees_entry :
    let e := { read0 .forwarded true with answer := .returning .error }
    let s := holding (air .armed pos2 T0) [e] []
    s.inReset = false ∧ HeldTableRight s ∧ e ∈ s.gate.held ∧ e.phase = .forwarded ∧ e.answer = .returning .error := by
  refine ⟨rfl, ?_, List.mem_singleton.2 rfl, rfl, rfl⟩
  simp [HeldTableRight, holding, read0]

/-- R131: the first sample, and a later one with the alarm clear and raised. -/
theorem witness_margin_sample_moves_trackers_then_alarm :
    2147483647 ≤ 2147483647 ∧ (State.reset.stream 3).margin.trackers = none ∧
      ∀ b ∈ [true, false],
        ((State.reset.updStream 3 fun st => { st with margin := { trackers := some ⟨7, 9⟩, alarm := b } }).stream
          3).margin.trackers = some ⟨7, 9⟩ := by decide

/-- R123: an unmapped tag, a mapped tag with no entry, and one with an older entry of another tag. -/
theorem witness_echo_strobe_pairs_oldest_of_tag :
    let s := { air .running pos2 T0 with
      paths := ⟨{ path12 with echoQueue := [⟨20, 8, T0, false⟩, ⟨12, 3, T0, false⟩] }, path12⟩ }
    s.inReset = false ∧ s.tags[41] = none ∧ s.tags[13] ≠ none ∧
      (∀ e ∈ s.paths.a.echoQueue, e.tag ≠ 13) ∧ s.tags[12] ≠ none ∧
      s.paths.a.echoQueue = [⟨20, 8, T0, false⟩] ++ ⟨12, 3, T0, false⟩ :: [] ∧
      ∀ y ∈ [(⟨20, 8, T0, false⟩ : EchoEntry)], y.tag ≠ 12 := by decide

/-- R110: a REF edge in FREE. -/
theorem test_ref_pulse_in_free :
    State.reset.lock.state = .free ∧ (after .refPulse State.reset).lock = State.reset.lock ∧
      (after .refPulse State.reset).status.counters = State.reset.status.counters := by decide

/-- R110 to R114: each lock state but FREE, the good count at both ends, the error inside and past the windows. -/
theorem witness_pulse_corrects_and_is_judged :
    ∀ x ∈ [LockState.acquiring, .locked, .holdover], ∀ good ∈ [0, 3], ∀ err ∈ [0, 1000, 1001, 10001, 1000001],
      let s : State := { State.reset with
        time := { now := 7000000000000 + err }
        lock := { state := x, epoch := some 7000000000000, good := good } }
      s.inReset = false ∧ s.lock.state ≠ .free ∧ s.lock.epoch = some 7000000000000 ∧
        0 < s.refRec.interval ∧ s.lock.good ≤ 3 := by decide

theorem witness_pulse_timeout_enters_holdover :
    ∀ x ∈ [LockState.acquiring, .locked],
      let s : State := { State.reset with
        time := { now := 7006500000000 }, lock := { state := x, deadline := some 7006500000000 } }
      s.inReset = false ∧ s.lock.state = x ∧ s.lock.deadline = some 7006500000000 ∧
        7006500000000 ≤ s.time.now := by decide

/-- R53: with every stream IDLE no byte is a payload byte. -/
theorem no_payload_byte_at_reset (i : StreamId) (x j k : Nat) : ¬PayloadByte State.reset i x j k := by
  rintro ⟨h, -⟩
  have hs : ∀ i : StreamId, (State.reset.stream i).state = .idle := by decide
  rcases h with h | h | h | h <;> rw [hs i] at h <;> cases h

/-- R140: a write of one byte just past the command words, and reads of exactly one event word. -/
theorem witness_plain_fill_request_forwarded :
    State.reset.inReset = false ∧ State.reset.ports.fillForwarder.length < 64 ∧
      (∀ off ∈ [0, 8, 16], (0x18#40).toNat + 0 < State.reset.straps.toNat * 65536 + off ∨
        State.reset.straps.toNat * 65536 + off + 8 ≤ (0x18#40).toNat + 0) ∧
      (∀ i j k, ¬PayloadByte State.reset i ((0x18#40).toNat + 0) j k) ∧
      CoversEventWord State.reset 0x1040 8 .device ∧ CoversEventWord State.reset 0x1C80 8 (.stream 23) := by
  refine ⟨rfl, by decide, by decide, fun i j k => no_payload_byte_at_reset i _ j k,
    ⟨0x1040, rfl, by decide, by decide⟩, ⟨_, rfl, by decide, by decide⟩⟩

/-- R141: writes that touch the words: of the last byte before the region and the first of SELECT, of all three words,
of a part of DATA from its middle into ACTION, and of the last byte of ACTION. -/
theorem witness_command_words_taken_in_order :
    let s := air .idle pos2 0
    s.inReset = false ∧ s.ports.fillForwarder.length < 64 ∧
      ∀ x ∈ [(0xFFFFFF#40, 2), (0x1000000#40, 24), (0x100000B#40, 8), (0x1000017#40, 1)],
        List.replicate x.2 1#8 ≠ [] ∧
          ∃ w ∈ [CommandWord.select, .data, .action],
            x.1.toNat < s.straps.toNat * 65536 + wordOffset w + 8 ∧
              s.straps.toNat * 65536 + wordOffset w < x.1.toNat + (List.replicate x.2 1#8).length := by decide

/-- R141: a write from the middle of DATA into ACTION refuses both words with FORMAT; one of SELECT and a part of DATA
performs the SELECT. -/
theorem test_command_words_in_part :
    let s := air .idle pos2 0
    let t := after (.fillRequest 0x100000B#40 (.write (List.replicate 8 1))) s
    let u := after (.fillRequest 0x1000000#40 (.write ([3, 12, 0, 0, 0, 0, 0, 0] ++ [1]))) s
    t.decoder.echo.dataResult = .format ∧ t.decoder.echo.actionResult = .format ∧
      t.decoder.echo.count = 2 ∧ u.decoder.sel = { target := .tag 12, next := 0 } ∧
      u.decoder.echo.dataResult = .format := by decide

theorem read_window (i : StreamId) :
    ((air .running pos2 T0).stream i).window = if i = 3 then some ⟨0x4000000000, 622592⟩ else none := by
  revert i
  decide

theorem witness_windows_apart : WindowsApart (air .running pos2 T0) := by
  refine ⟨by decide, ?_, ?_⟩
  · intro i w hw
    rw [read_window] at hw
    split at hw
    · cases hw
      exact ⟨by decide, by decide⟩
    · cases hw
  · intro i j w x hij hw hx
    rw [read_window] at hw hx
    split at hw <;> split at hx <;> first | cases hw; done | cases hx; done | skip
    rename_i h1 h2
    exact absurd (h1.trans h2.symm) hij

/-- 3.8: the last payload bytes of segment 2 of slot 5, of the line in the slot with q_head 0, its record not
released and released. -/
theorem witness_fill_write_accounted :
    let s := air .running pos2 T0
    let p := (s.stream 3).active
    s.inReset = false ∧ s.ports.fillForwarder.length < 64 ∧ (s.stream 3).state = .running ∧
      p.segsPerLine * p.segStride ≤ p.lineStride ∧ p.segLen ≤ p.segStride ∧ 5 < (s.stream 3).ring ∧
      2 < p.segsPerLine ∧ 1198 + [1#8, 2#8].length ≤ p.segLen ∧
      (0x4000006D2E#40).toNat = p.windowBase + 5 * p.lineStride + 2 * p.segStride + 1198 ∧
      (s.stream 3).qHead.getD 0 ≤ 5 ∧ 5 < (s.stream 3).qHead.getD 0 + (s.stream 3).ring ∧
      5 % (s.stream 3).ring = 5 ∧
      ∀ r ∈ [(⟨false, false⟩ : PathPair Bool), ⟨true, false⟩],
        (lookupSeg (s.withSegs [(1558, freshRecord 5 r)]).segs
          (carveBase s.carve 3 + 5 * p.segsPerLine + 2)).released = r := by decide

/-- Every stream but 3 of the part on air is as after reset, IDLE. -/
theorem air_idle (x : StreamState) (np : NextPos) (now : Nat) (i : StreamId) (h : i ≠ 3) :
    (air x np now).stream i = {} := by
  have hv : i.val ≠ 3 := fun e => h (Fin.ext e)
  simp [air, State.stream, hv.symm]

theorem witness_rings_right : RingsRight (air .running pos2 T0) := by
  intro i
  by_cases h : i = 3
  · subst h
    intro _ _
    exact ⟨by decide, by decide, by decide, by decide⟩
  · intro _ hs
    exact absurd (congrArg Stream.state (air_idle .running pos2 T0 i h)) hs

theorem witness_carve_ascending : CarveAscending (air .running pos2 T0) := by
  show ∀ k < 24, carveBase resetCarve k ≤ carveBase resetCarve (k + 1)
  decide

/-- R53, R54: a write from the last byte of segment 0 of slot 0 over its gap into segment 1, its records those of line
0, the second already released on path B. -/
def spanning : State :=
  { air .running pos2 T0 with
    segs := [(1536, freshRecord 0 ⟨false, false⟩), (1537, freshRecord 0 ⟨false, true⟩)] }

theorem witness_fill_write_accounted_over_segments :
    let p := (spanning.stream 3).active
    let d := List.replicate 18 7#8
    spanning.inReset = false ∧ spanning.ports.fillForwarder.length < 64 ∧ (spanning.stream 3).state = .running ∧
      (bytesInSegment p 0x40000004AF d 0 0).length = 1 ∧ (bytesInSegment p 0x40000004AF d 0 1).length = 1 ∧
      bytesInSegment p 0x40000004AF d 0 2 = [] ∧ 0x100000 * 65536 + 24 ≤ 0x40000004AF := by decide

/-- R56, R58: each segment takes its own byte, and the second is TORN. -/
theorem test_fill_over_segments :
    let t := after (.fillRequest 0x40000004AF#40 (.write (List.replicate 18 7))) spanning
    t.segs.map (fun r => (r.1, r.2.bytes, r.2.writeSum)) = [(1536, 1, 7), (1537, 1, 7)] ∧
      (t.stream 3).events = 128#16 := by decide +kernel

/-- R146: ports with a request at the source that the rotation reaches, and with none. -/
theorem witness_memory_port_grants_in_rotation :
    let item : FillItem := ⟨0, .read 1, .pass⟩
    let send : SendItem := ⟨0, .pass ⟨0, 0, .read 1⟩⟩
    nextGranted {} = none ∧
      nextGranted { fillForwarder := [item], sendReady := [send] } = some .fill ∧
      nextGranted { fillForwarder := [item], sendReady := [send], lastGranted := .fill } = some .send ∧
      nextGranted { fillForwarder := [item], statusSource := some ⟨.echo, 0, []⟩, lastGranted := .send } =
        some .status := by decide

/-- R148: requests of each kind that are no released read, and no request. -/
theorem witness_memory_answer_returned :
    let s : State := { air .idle pos2 0 with
      ports := { atMemory := [.fill ⟨0, .read 8, .pass⟩, .send ⟨0, 0, .read 1⟩, .posting ⟨.echo, 0, []⟩] } }
    s.inReset = false ∧
      (∀ n ∈ [0, 1, 2, 3], ∀ q, s.ports.atMemory[n]? ≠ some (.released q)) ∧
      ∀ n ∈ [0, 1, 2, 3], ∀ f d, s.ports.atMemory[n]? = some (.fill f) → Response.error = .data d →
        f.cls ≠ .readToClear := by
  refine ⟨rfl, ?_, fun _ _ _ _ _ h => by cases h⟩
  intro n hn q
  simp only [List.mem_cons, List.not_mem_nil, or_false] at hn
  rcases hn with rfl | rfl | rfl | rfl <;> simp

theorem witness_read_to_clear_clears_shown_flags :
    clearing.inReset = false ∧
      clearing.ports.atMemory[0]? = some (.fill ⟨0x1001280#40, .read 8, .readToClear⟩) ∧
      (List.replicate 8 8#8).length = (Access.read 8).len ∧
      CoversEventWord clearing 0x1001280 8 (.stream 3) :=
  ⟨rfl, rfl, rfl, _, rfl, by decide, by decide⟩

/-- R162, R163: each kind of record at the front. -/
theorem witness_oldest_record_posted :
    ∀ r ∈ [RecordId.summary, .device, .echo, .stream 0, .stream 23],
      let s : State := { State.reset with status := { updates := [r] } }
      s.inReset = false ∧ s.ports.statusSource = none ∧ s.status.updates = r :: [] := by decide

theorem witness_records_show_state :
    let s := air .running pos2 T0
    (∀ i, ∀ v ∈ (s.stream i).counters.toList, v ≤ 4294967295) ∧
      (∀ v ∈ s.status.counters.toList, v ≤ 4294967295) ∧ (s.stream 3).ring ≤ 12288 ∧
      s.gate.held.length ≤ 48 ∧ (s.paths.get .A).lead ≤ 50000 ∧ (s.paths.get .B).lead ≤ 50000 ∧
      s.time.now < 2 ^ 64 ∧ (s.stream 3).clockNow = some frame0 ∧ frame0.frame < 2 ^ 64 ∧
      s.decoder.sel.next ≤ lastField s.decoder.sel.target ∧ s.decoder.echo.dataKind < 256 ∧
      s.decoder.echo.dataIndex < 256 ∧ s.decoder.echo.dataField < 256 := by decide

/-- 2.3: N = 4,320, at the first and the last position. -/
theorem witness_spacing_accumulator_exact :
    0 < params3.den ∧ 0 < params3.totalLines ∧ 0 < params3.activeLines * params3.segsPerLine ∧
      4319 + 1 = params3.activeLines * params3.segsPerLine := by decide

theorem witness_attention_right :
    AttentionRight (air .running pos2 T0) := by
  show (air .running pos2 T0).status.attn = true ↔ AttentionCalled (air .running pos2 T0)
  decide

/-- The state on air makes a step. -/
theorem witness_step_answers : ∃ t, step (air .running pos2 T0) = .next t := ⟨_, rfl⟩

theorem witness_forwarded_read_is_final :
    let s := holding (air .running pos2 T0) [read0 .forwarded true] []
    HeldTableRight s ∧ read0 .forwarded true ∈ s.gate.held ∧ (read0 .forwarded true).phase = .forwarded ∧
      ∃ t, step s = .next t ∧ ∃ e' ∈ t.gate.held, e'.ticket = (read0 .forwarded true).ticket :=
  ⟨held_table_right_read0 _ _ _ rfl, List.mem_singleton.2 rfl, rfl, _, rfl, _, List.mem_singleton.2 rfl, rfl⟩

theorem witness_time_never_decreases_on_air :
    let s := air .running pos2 T0
    TimeInRange s ∧ RateBounded s ∧ (∀ x rest, s.pending ≠ .resetRelease x :: rest) ∧
      ∃ i, (s.stream i).state ≠ .idle := by
  refine ⟨⟨by decide, by decide⟩, ⟨by decide, by decide, by decide, by decide⟩, ?_, 3, by decide⟩
  intro x rest h
  cases h

/-- Each of the bounds holds of the part on air. -/
theorem witness_step_keeps_bounds :
    let s := air .running pos2 T0
    UpdatesOnce s ∧ EchoQueuesBounded s ∧ LeadsBounded s ∧ RateBounded s ∧ s.lock.good ≤ 3 ∧
      CountersBounded s ∧ SelectionInRange s ∧ CarveAscending s ∧ TimeInRange s ∧ LockHasEpoch s ∧
      UnlockAboveLock s ∧ SegmentsSorted s := by
  refine ⟨List.nodup_nil, fun p => by cases p <;> decide, fun p => by cases p <;> decide,
    ⟨by decide, by decide, by decide, by decide⟩, by decide, ⟨by decide, by decide⟩,
    Nat.le_refl 0, ?_, ⟨by decide, by decide⟩, fun h => absurd rfl h, ?_, List.Pairwise.nil⟩
  · show ∀ k < 24, carveBase resetCarve k ≤ carveBase resetCarve (k + 1)
    decide
  · show (1000 : Nat) ≤ 10000
    decide

/-- Table 1-1: the ranges of a record as a test. -/
theorem in_ranges_of {r : List FieldRange} {v : List Nat} (hl : r.length = v.length)
    (h : ∀ x ∈ r.zip v, x.1.lo ≤ x.2 ∧ x.2 ≤ x.1.hi ∧ x.2 % x.1.step = 0) : InRanges r v :=
  List.forall₂_iff_zip.2 ⟨hl, fun hab => h _ hab⟩

/-- The other bounds hold of the part on air, here with a pending-apply record and a tracker. -/
theorem witness_step_keeps_further_bounds :
    let s := (applying .running).updStream 3 fun st => { st with margin := ⟨some ⟨5, 2147483647⟩, false⟩ }
    OffsetsBounded s ∧ ForwardersBounded s ∧ TrackersBounded s ∧ FieldsInRange s := by
  refine ⟨?_, ⟨by decide, by decide⟩, ?_, ?_, fun p => ?_, in_ranges_of rfl (by decide)⟩
  · intro i
    revert i
    decide
  · intro i F S h
    by_cases hi : i = 3
    · subst hi
      cases h
      exact ⟨by decide, by decide⟩
    · have none : ∀ j : StreamId, j ≠ 3 → (((applying .running).updStream 3 fun st =>
          { st with margin := ⟨some ⟨5, 2147483647⟩, false⟩ }).stream j).margin.trackers = none := by decide
      rw [none i hi] at h
      cases h
  · intro i
    by_cases hi : i = 3
    · subst hi
      refine ⟨in_ranges_of rfl (by decide), in_ranges_of rfl (by decide), fun r h => ?_⟩
      cases h
      exact in_ranges_of rfl (by decide)
    · have h0 : ∀ j : StreamId, j ≠ 3 → ((applying .running).updStream 3 fun st =>
          { st with margin := ⟨some ⟨5, 2147483647⟩, false⟩ }).stream j = {} := by decide
      rw [h0 i hi]
      exact ⟨in_ranges_of rfl (by decide), in_ranges_of rfl (by decide), fun r h => by cases h⟩
  · cases p <;> exact in_ranges_of rfl (by decide)

/-- A read held on air, in WAITING: the properties of the runs hold together. -/
theorem witness_runs_hold_together :
    let s := holding (air .running pos2 T0) [read0 .waiting true] []
    HeldTableRight s ∧ StopFrameOnlyDraining s ∧ RunStateRight s ∧ UnansweredOnAir s ∧ WindowsApart s := by
  refine ⟨held_table_right_read0 _ _ _ rfl, ?_, ?_, ?_, witness_windows_apart⟩
  · show ∀ i, ((air .running pos2 T0).stream i).fStop.isSome → _
    decide
  · intro i
    by_cases h : i = 3
    · subst h
      refine ⟨(fun h => by cases h), fun _ => ⟨rfl, fun p => ?_⟩⟩
      cases p <;>
        exact ⟨⟨fun _ => Or.inl rfl, fun _ => rfl⟩, ⟨fun _ => Or.inl rfl, fun _ => rfl⟩,
          fun _ a ha => by cases ha; rfl⟩
    · have hi : ∀ j : StreamId, j ≠ 3 → (air .running pos2 T0).stream j = {} := by decide
      exact ⟨fun _ => by
        show ((air .running pos2 T0).stream i).clockNow = none ∧ ((air .running pos2 T0).stream i).clockNext = none ∧
          ((air .running pos2 T0).stream i).acc = ⟨none, none⟩ ∧ ((air .running pos2 T0).stream i).qHead = none ∧
          ((air .running pos2 T0).stream i).meters = ⟨none, none⟩ ∧
          ((air .running pos2 T0).stream i).pendingApply = none ∧ ((air .running pos2 T0).stream i).fStop = none
        rw [hi i h]
        decide, fun hs => absurd (congrArg Stream.state (hi i h)) hs⟩
  · intro e he _
    cases List.mem_singleton.1 he
    refine ⟨Or.inl rfl, by decide, by decide, by decide, fun _ => rfl⟩

/-- R39, R40: the heads of the part on air, a read of line 0 held on path A and none on path B. -/
theorem witness_heads_right : HeadsRight (holding (air .running pos2 T0) [read0 .waiting true] []) := by
  intro _ i st
  by_cases h : i = 3
  · subst h
    refine ⟨(fun h => by cases h), fun _ => ⟨fun p a ha => ?_, (fun h => by cases h), (fun h => by cases h), ?_⟩⟩
    · cases p
      · cases ha
        exact Or.inl ⟨[], _, [], _, rfl, (fun x hx => absurd hx List.not_mem_nil),
          ⟨rfl, rfl, Or.inl rfl⟩, rfl, rfl⟩
      · cases ha
        refine Or.inr ⟨fun x hx hh => ?_, pos2, rfl, by decide⟩
        cases List.mem_singleton.1 hx
        exact absurd hh.2.1 (by decide)
    · intro _ a b ha hb
      cases ha
      cases hb
      decide
  · have hi : st = {} := air_idle .running pos2 T0 i h
    clear_value st
    subst hi
    exact ⟨(fun h => by cases h), fun h => by rcases h with h | h | h <;> cases h⟩

/-- R52: a stream of ring depth 2 with one segment a line, both of its records at L bytes. -/
theorem witness_records_within :
    let r := { freshRecord 0 ⟨false, false⟩ with bytes := 1200 }
    let s := { (air .running pos2 T0).updStream 3 fun st =>
      { st with ring := 2, active := { st.active with segsPerLine := 1 } } with segs := [(1536, r), (1537, r)] }
    RecordsWithin s := by
  intro r s i
  by_cases h : i = 3
  · subst h
    intro _ _ idx h1 h2
    have e1 : 1536 ≤ idx := h1
    have e2 : idx < 1538 := h2
    obtain rfl | rfl : idx = 1536 ∨ idx = 1537 := by omega
    · exact Nat.le_refl 1200
    · exact Nat.le_refl 1200
  · intro _ hs
    refine absurd ?_ hs
    show (s.stream i).state = .idle
    have hv : i.val ≠ 3 := fun e => h (Fin.ext e)
    simp [s, air, State.stream, State.updStream, hv.symm]

end Sys2Proof.Tests
end

-- The schedule's arithmetic (Section 2): the two accumulators are exact.
section
namespace Sys2Proof.Machine

open Sys2Proof

/-! ### The accumulators of the schedule -/

/-- R22, R28: an accumulator whose remainder stands at a mod d takes b: where the remainders reach d, the carry goes into
the quotient. -/
theorem carry_exact {α : Type} (mk : Nat → Nat → α) (a b d : Nat) (hd : 0 < d) :
    (if d ≤ a % d + b % d then mk (a / d + b / d + 1) (a % d + b % d - d)
      else mk (a / d + b / d) (a % d + b % d)) = mk ((a + b) / d) ((a + b) % d) := by
  rw [Nat.add_div hd, Nat.add_mod_eq_ite]
  split <;> rfl

/-- R22: the step of an exact frame record is the exact record of the next frame. -/
theorem frameStep_frameAt (p : Params) (f : Nat) (hd : 0 < p.den) :
    frameStep p (frameAt p f) = frameAt p (f + 1) := by
  have h := carry_exact (FrameRec.mk (f + 1)) (f * p.num) p.num p.den hd
  rwa [← Nat.succ_mul] at h

/-- R22: any number of steps. -/
theorem frameStep_iterate (p : Params) (f k : Nat) (hd : 0 < p.den) :
    (frameStep p)^[k] (frameAt p f) = frameAt p (f + k) := by
  induction k with
  | zero => rfl
  | succ k ih => rw [Function.iterate_succ_apply', ih, frameStep_frameAt p _ hd]; rfl

/-- R21: a frame is `num / den` long, or 1 ns longer. -/
theorem frameAt_succ_start (p : Params) (f : Nat) (hd : 0 < p.den) :
    (frameAt p (f + 1)).start = (frameAt p f).start + p.num / p.den ∨
      (frameAt p (f + 1)).start = (frameAt p f).start + p.num / p.den + 1 := by
  simp only [frameAt, Nat.succ_mul, Nat.add_div hd]
  split
  · exact Or.inr rfl
  · exact Or.inl rfl

/-- R28: the exact position n of a frame, by its spacing and its remainder. -/
def posAt (p : Params) (x : FrameRec) (n : Nat) : NextPos :=
  { frame := x, n := n, spacing := n * p.gapG / p.gapD, rem := n * p.gapG % p.gapD }

@[simp] theorem posAt_zero (p : Params) (x : FrameRec) : posAt p x 0 = firstPos x := by
  simp [posAt, firstPos]

/-- R28: the step of an exact position inside a frame is the exact next position. -/
theorem posStep_posAt (p : Params) (x : FrameRec) (n : Nat) (hd : 0 < p.gapD) (hn : n + 1 < p.positions) :
    posStep p (posAt p x n) = posAt p x (n + 1) := by
  have h := carry_exact (NextPos.mk x (n + 1)) (n * p.gapG) p.gapG p.gapD hd
  rw [← Nat.succ_mul] at h
  unfold posStep
  rw [if_pos (show (posAt p x n).n + 1 < p.positions from hn)]
  exact h

/-- R28: any number of steps that stay inside the frame. -/
theorem posStep_iterate (p : Params) (x : FrameRec) (n : Nat) (hd : 0 < p.gapD) (hn : n < p.positions) :
    (posStep p)^[n] (firstPos x) = posAt p x n := by
  induction n with
  | zero => exact (posAt_zero p x).symm
  | succ n ih => rw [Function.iterate_succ_apply', ih (by omega), posStep_posAt p x n hd hn]

/-- R28: one step past the last position of a frame gives the first of the next. -/
theorem posStep_last (p : Params) (x : NextPos) (hn : x.n + 1 = p.positions) :
    posStep p x = firstPos (frameStep p x.frame) := by
  simp [posStep, hn]

/-- R27: D is positive where the frame has a position. -/
theorem gapD_pos (p : Params) (hd : 0 < p.den) (ht : 0 < p.totalLines) (hc : 0 < p.positions) : 0 < p.gapD := by
  unfold Params.gapD
  split
  · exact Nat.mul_pos hd hc
  · exact Nat.mul_pos (Nat.mul_pos hd ht) hc

/-- Settles O52: R22's step is exact, by induction on the number of steps. -/
theorem frameAccumulatorExact : Obligations.FrameAccumulatorExact := fun p f k hd =>
  ⟨frameStep_iterate p f k hd, frameAt_succ_start p f hd⟩

/-- Settles O53: R28's step is exact, by induction on the number of steps. -/
theorem spacingAccumulatorExact : Obligations.SpacingAccumulatorExact := by
  intro p x n hd ht count g d hn
  refine ⟨?_, fun hc sp r => posStep_last p _ hc⟩
  have hD : 0 < p.gapD := gapD_pos p hd ht (Nat.zero_lt_of_lt hn)
  calc (posStep p)^[n] (firstPos x)
      = posAt p x n := posStep_iterate p x n hD hn
    _ = ⟨x, n, n * g / d, n * (g % d) % d⟩ := by rw [Nat.mul_mod_mod]; rfl

end Sys2Proof.Machine
end

-- The arrival of a gated read (R53, R69, R144), and an event in which nothing can be granted (R99, R100).
section
namespace Sys2Proof.Machine

open Sys2Proof

/-! ### Path sets -/

theorem inSet_iff_has (x : PathSet) (p : Path) : inSet x p ↔ x.has p = true := by
  cases x <;> cases p <;> simp [inSet, PathSet.has]

theorem mem_paths_iff_inSet (x : PathSet) (p : Path) : p ∈ x.paths ↔ inSet x p := by
  rw [inSet_iff_has]
  cases p <;> simp [PathSet.paths]

/-! ### Which reads are gated -/

/-- R53: the spot of the first byte of segment k of slot j. -/
theorem spotOf_segment_start (p : Params) (len j k : Nat) (hd : 0 < p.segStride) (hk : k < p.segsPerLine)
    (hl : p.segsPerLine * p.segStride ≤ p.lineStride) :
    spotOf p ⟨p.windowBase, len⟩ (p.windowBase + j * p.lineStride + k * p.segStride) = ⟨j, k, 0⟩ := by
  have hlt : k * p.segStride < p.lineStride := Nat.lt_of_lt_of_le ((Nat.mul_lt_mul_right hd).2 hk) hl
  have ho : p.windowBase + j * p.lineStride + k * p.segStride - p.windowBase =
      k * p.segStride + j * p.lineStride := by omega
  have hj : (k * p.segStride + j * p.lineStride) / p.lineStride = j := by
    rw [Nat.add_mul_div_right _ _ (by omega), Nat.div_eq_of_lt hlt, Nat.zero_add]
  simp only [spotOf, ho, hj, Nat.add_sub_cancel, Nat.mul_div_cancel _ hd, Nat.sub_self]

/-- R53: the read's address starts its segment of the stream's window. -/
theorem segmentStart_of_gatedAt {s : State} {tag : Tag} {addr : Nat} {i : StreamId} {p : Path} {j k : Nat}
    (h : GatedAt s tag addr i p j k) : (s.stream i).segmentStart addr = some (j, k) := by
  have hspot := spotOf_segment_start (s.stream i).active ((s.stream i).ring * (s.stream i).active.lineStride)
    j k h.stride h.seg h.layout
  have hseg : k * (s.stream i).active.segStride < (s.stream i).active.lineStride :=
    Nat.lt_of_lt_of_le ((Nat.mul_lt_mul_right h.stride).2 h.seg) h.layout
  have hslot : (j + 1) * (s.stream i).active.lineStride ≤
      (s.stream i).ring * (s.stream i).active.lineStride := Nat.mul_le_mul_right _ h.slot
  rw [Nat.succ_mul] at hslot
  have hin : Window.has
      ⟨(s.stream i).active.windowBase, (s.stream i).ring * (s.stream i).active.lineStride⟩ addr = true := by
    simp only [Window.has, h.addr, Bool.and_eq_true, decide_eq_true_eq]
    omega
  simp only [Stream.segmentStart, h.window, hin]
  simp [h.addr, hspot, h.seg]

/-- R144: such a read is gated. -/
theorem sendClass_of_gatedAt {s : State} {tag : Tag} {addr : Nat} {i : StreamId} {p : Path} {j k : Nat}
    (h : GatedAt s tag addr i p j k) (len : Nat) : s.sendClass tag addr (.read len) = .gated i p j k := by
  have hown : s.ownMapped tag = some (i, p) := by
    simp [State.ownMapped, h.mapped, h.notIdle, (inSet_iff_has _ _).1 h.inPathSet]
  simp [State.sendClass, State.gatedAt, hown, segmentStart_of_gatedAt h]

/-! ### The table as an entry joins it and is changed -/

/-- R65: an entry joins the held-read table. -/
def State.addRead (s : State) (e : HeldRead) : State :=
  s.withGate { s.gate with held := s.gate.held ++ [e], nextTicket := s.gate.nextTicket + 1 }

/-- R69: in ALIGNING the arriving read is held as it is. -/
theorem arrive_aligning (s : State) (tag : Tag) (addr : Addr) (len : Nat) (i : StreamId) (p : Path) (j k : Nat)
    (h : (s.stream i).state = .aligning) :
    s.arrive i p tag addr len j k = s.addRead (newEntry s tag addr len i p j k) := by
  simp only [State.arrive, h]; rfl

/-- R70: in HALTED the arriving read is answered with error. -/
theorem arrive_halted (s : State) (tag : Tag) (addr : Addr) (len : Nat) (i : StreamId) (p : Path) (j k : Nat)
    (h : (s.stream i).state = .halted) :
    s.arrive i p tag addr len j k =
      (s.addRead (newEntry s tag addr len i p j k)).answerError s.gate.nextTicket := by
  simp only [State.arrive, h]; rfl

/-- R69: in ARMED, RUNNING and DRAINING the arriving read is assigned. -/
theorem arrive_assigns (s : State) (tag : Tag) (addr : Addr) (len : Nat) (i : StreamId) (p : Path) (j k : Nat)
    (h : (s.stream i).state = .armed ∨ (s.stream i).state = .running ∨ (s.stream i).state = .draining) :
    s.arrive i p tag addr len j k =
      (s.addRead (newEntry s tag addr len i p j k)).assign (newEntry s tag addr len i p j k) := by
  rcases h with h | h | h <;> simp only [State.arrive, h] <;> rfl

/-- A change of the youngest entry, where no other has its ticket. -/
theorem updEntry_gate_last {s : State} {l : List HeldRead} {e : HeldRead} (h : s.gate.held = l ++ [e])
    (fresh : ∀ x ∈ l, x.ticket ≠ e.ticket) (f : HeldRead → HeldRead) :
    (s.updEntry e.ticket f).gate = { s.gate with held := l ++ [f e] } := by
  have hl : l.map (fun x => if x.ticket = e.ticket then f x else x) = l :=
    (List.map_congr_left fun x hx => if_neg (fresh x hx)).trans (List.map_id' l)
  simp only [State.updEntry, withGate_gate, h, List.map_append, hl, List.map_cons, List.map_nil, if_true]

/-! ### What an operation on one stream's reads leaves alone -/

/-- The fields, beside those of `State.still`, that the assignment of a read leaves alone. -/
def State.beside (s : State) : List (Nat × SegRecord) × PathPair PathState × Ports × Nat :=
  (s.segs, s.paths, s.ports, s.freeIndex)

section Beside

variable (s : State)

@[simp] theorem updStream_beside (i : StreamId) (f : Stream → Stream) : (s.updStream i f).beside = s.beside := rfl
@[simp] theorem withGate_beside (x : Gate) : (s.withGate x).beside = s.beside := rfl
@[simp] theorem addRead_beside (e : HeldRead) : (s.addRead e).beside = s.beside := rfl
@[simp] theorem latch_beside (i : StreamId) (e : StreamEvent) : (s.latch i e).beside = s.beside := rfl
@[simp] theorem count_beside (i : StreamId) (c : StreamCounter) : (s.count i c).beside = s.beside := rfl
@[simp] theorem setStreamState_beside (i : StreamId) (x : StreamState) :
    (s.setStreamState i x).beside = s.beside := rfl
@[simp] theorem answerError_beside (t : Nat) : (s.answerError t).beside = s.beside := rfl
@[simp] theorem surplus_beside (e : HeldRead) : (s.surplus e).beside = s.beside := by simp [State.surplus]
@[simp] theorem settle_beside (b : State) : (settle b s).beside = s.beside := rfl

@[simp] theorem settle_still (b : State) : (settle b s).still = s.still := rfl
@[simp] theorem addRead_still (e : HeldRead) : (s.addRead e).still = s.still := rfl

end Beside

/-! ### An event in which nothing is granted -/

theorem best_eq_none_iff (s : State) (p : Path) (l : List HeldRead) : s.best p l = none ↔ l = [] := by
  cases l with
  | nil => simp [State.best]
  | cons x xs =>
    simp only [State.best, reduceCtorEq, iff_false]
    split
    · simp
    · split <;> simp

theorem wake_of_noneDue {s : State} {p : Path} (h : NoneDue s p) : s.wake p = s := by
  have hnil : s.dueOn p = [] := by
    refine List.filter_eq_nil_iff.2 fun e he hd => ?_
    simp only [Bool.and_eq_true, decide_eq_true_eq, State.releaseDue, beq_iff_eq] at hd
    obtain ⟨hp, hw, hrel⟩ := hd
    obtain ⟨a, ha, hlt⟩ := h e he hp hw
    simp only [HeldRead.release, ha, Option.map_some, Option.getD_some] at hrel
    omega
  rw [State.wake, hnil, List.foldl_nil]

theorem winner_of_nothingToGrant {s : State} (h : NothingToGrant s) (p : Path) : s.winner p = none := by
  refine (best_eq_none_iff s p _).2 (List.filter_eq_nil_iff.2 fun e he hg => ?_)
  simp only [State.grantable, Bool.and_eq_true, decide_eq_true_eq, beq_iff_eq] at hg
  obtain ⟨⟨⟨⟨hp, hen⟩, hel⟩, hpermit⟩, hfree⟩ := hg
  subst hp
  rcases h.2 e he hel with hdis | hbusy | hlater
  · simp [hdis] at hen
  · omega
  · split at hpermit
    · cases hpermit
    · next t ht =>
      have := hlater t ht
      simp only [decide_eq_true_eq] at hpermit
      omega

theorem arbitrate_of_nothingToGrant {s : State} (h : NothingToGrant s) (p : Path) : s.arbitrate p = s := by
  simp only [State.arbitrate, wake_of_noneDue (h.1 p)]
  cases s.gate.held.length with
  | zero => rfl
  | succ n => simp only [State.arbitrateTimes, winner_of_nothingToGrant h p]

theorem arbitrateBoth_of_nothingToGrant {s : State} (h : NothingToGrant s) : s.arbitrateBoth = s := by
  simp [State.arbitrateBoth, wake_of_noneDue (h.1 _), winner_of_nothingToGrant h,
    arbitrate_of_nothingToGrant h]

/-- An entry that joins the table brings nothing to grant where it is not ELIGIBLE and, in WAITING, its release time
lies ahead. -/
theorem nothingToGrant_append {s t : State} {e : HeldRead} (h : NothingToGrant s) (hs : t.still = s.still)
    (hb : t.beside = s.beside) (hheld : t.gate.held = s.gate.held ++ [e]) (helig : e.phase ≠ .eligible)
    (hwait : e.phase = .waiting → ∃ a, e.assigned = some a ∧ s.time.now < a.release) : NothingToGrant t := by
  have htime : t.time = s.time := congrArg Still.time hs
  have hpaths : t.paths = s.paths := congrArg (fun x => x.2.1) hb
  constructor
  · intro p x hx hp hw
    rw [htime]
    rcases List.mem_append.1 (hheld ▸ hx) with hx | hx
    · exact h.1 p x hx hp hw
    · obtain rfl := List.mem_singleton.1 hx
      exact hwait hw
  · intro x hx he
    rw [htime, hpaths]
    rcases List.mem_append.1 (hheld ▸ hx) with hx | hx
    · exact h.2 x hx he
    · obtain rfl := List.mem_singleton.1 hx
      exact absurd he helig

/-! ### A gated read that is given no position -/

/-- R34: the assignment of a read whose path's next position lies past f_stop. -/
theorem assign_surplus {s : State} {e : HeldRead} {a : Accumulator} {np : NextPos} {f : Nat}
    (hst : (s.stream e.stream).state = .draining) (hf : (s.stream e.stream).fStop = some f)
    (ha : (s.stream e.stream).acc.get e.path = some a) (hn : a.next = some np) (hlt : f < np.frame.frame) :
    s.assign e = s.surplus e := by
  simp [State.assign, ha, hn, hst, hf, hlt]

/-! ### The command that presents a gated read -/

/-- R144: the command that presents a gated read which the send port accepts. -/
theorem exec_gated {s : State} {tag : Tag} {addr : Addr} {len : Nat} {i : StreamId} {p : Path} {j k : Nat}
    (hr : s.inReset = false) (hl : s.gate.held.length < 48) (hp : s.ports.passCount < 64)
    (h : GatedAt s tag addr.toNat i p j k) :
    exec (.sendRequest tag addr (.read len)) s =
      .next (settle s (s.arrive i p tag addr len j k).arbitrateBoth) := by
  show Host.Outcome.next (event (fun s => s.presentSend tag addr (.read len)) s) = _
  rw [event_live hr]
  simp only [State.presentSend, State.sendAccepts, hl, hp, State.takeSend, sendClass_of_gatedAt h,
    Access.len, decide_true, Bool.and_self, if_true]

/-- R144: the same command where, after the arrival, nothing can be granted. -/
theorem exec_gated_quiet {s u : State} {tag : Tag} {addr : Addr} {len : Nat} {i : StreamId} {p : Path} {j k : Nat}
    (hr : s.inReset = false) (hl : s.gate.held.length < 48) (hp : s.ports.passCount < 64)
    (h : GatedAt s tag addr.toNat i p j k) (hu : s.arrive i p tag addr len j k = u) (hq : NothingToGrant u) :
    exec (.sendRequest tag addr (.read len)) s = .next (settle s u) := by
  rw [exec_gated hr hl hp h, hu, arbitrateBoth_of_nothingToGrant hq]

/-- A state that differs from another in its streams, its Status Writer and its Release Gate. -/
theorem eq_of_still {s t : State} {g : Gate} (hs : t.still = s.still) (hb : t.beside = s.beside)
    (hg : t.gate = g) : t = { s with streams := t.streams, status := t.status, gate := g } := by
  obtain ⟨_⟩ := s
  obtain ⟨_⟩ := t
  simp only [State.still, State.beside, Still.mk.injEq, Prod.mk.injEq] at hs hb
  simp_all

/-- An event whose blocks leave the Status Writer's flags, counters and masks, and queue the records of `queued`. -/
theorem statusBecomes_settle {b s : State} {queued : List RecordId}
    (h : s.status = { b.status with updates := s.status.updates })
    (hu : ∀ r, r ∈ s.status.updates ↔ r ∈ b.status.updates ∨ r ∈ queued) :
    StatusBecomes b (settle b s) b.status.events b.status.counters queued where
  events := by rw [settle_events, h]
  counters := by rw [settle_counters, h]
  mask := by rw [settle_mask, h]
  summaryMask := by rw [settle_summaryMask, h]
  closes := settle_closes hu

/-- The gate once an arriving read has been given an answer of error. -/
theorem answerError_addRead_gate {s t : State} {e : HeldRead} (ht : t.gate = (s.addRead e).gate)
    (fresh : ∀ x ∈ s.gate.held, x.ticket ≠ e.ticket) :
    (t.answerError e.ticket).gate =
      { s.gate with nextTicket := s.gate.nextTicket + 1, held := s.gate.held ++ [failedRead e] } := by
  have hheld : t.gate.held = s.gate.held ++ [e] := by rw [ht]; rfl
  have hgate := updEntry_gate_last hheld fresh HeldRead.failed
  rw [ht] at hgate
  exact hgate

/-- Settles O29, by the state of the stream. -/
theorem gatedReadWithoutPosition : Obligations.GatedReadWithoutPosition := by
  intro tag addr len s i p j k hr hl hp hg hnothing e surplus hcase fresh
  rcases hcase with h | h | h
  · have hno : ¬surplus := fun x => nomatch h.symm.trans x.1
    have hquiet : NothingToGrant (s.addRead e) :=
      nothingToGrant_append hnothing rfl rfl rfl (by simp [e, newEntry]) (by simp [e, newEntry])
    refine ⟨settle s (s.addRead e), exec_gated_quiet hr hl hp hg (arrive_aligning s tag addr len i p j k h) hquiet,
      ?_, fun x => absurd x hno, fun _ => ⟨rfl, ?_⟩⟩
    · rw [if_pos h]; rfl
    · exact statusBecomes_settle rfl (by simp [State.addRead])
  · have hno : ¬surplus := fun x => nomatch h.symm.trans x.1
    have hgate := answerError_addRead_gate (s := s) (e := e) rfl fresh
    have hquiet : NothingToGrant ((s.addRead e).answerError e.ticket) :=
      nothingToGrant_append hnothing rfl rfl (congrArg Gate.held hgate) (by simp [failedRead])
        (by simp [failedRead])
    refine ⟨settle s ((s.addRead e).answerError e.ticket),
      exec_gated_quiet hr hl hp hg (arrive_halted s tag addr len i p j k h) hquiet,
      ?_, fun x => absurd x hno, fun _ => ⟨rfl, ?_⟩⟩
    · rw [h, if_neg (by decide)]
      exact eq_of_still rfl rfl hgate
    · exact statusBecomes_settle rfl (by simp [State.addRead, State.answerError, State.updEntry])
  · obtain ⟨hst, f, a, np, hf, ha, hn, hlt⟩ := id h
    have hgate := answerError_addRead_gate (s := s) (e := e)
      (t := ((s.addRead e).latch i .drop).count i .surplus) rfl fresh
    have harrive : s.arrive i p tag addr len j k = (s.addRead e).surplus e :=
      (arrive_assigns s tag addr len i p j k (.inr (.inr hst))).trans
        (assign_surplus (s := s.addRead e) (e := e) hst hf ha hn hlt)
    have hquiet : NothingToGrant ((s.addRead e).surplus e) :=
      nothingToGrant_append hnothing (by simp) (by simp) (congrArg Gate.held hgate) (by simp [failedRead])
        (by simp [failedRead])
    refine ⟨settle s ((s.addRead e).surplus e), exec_gated_quiet hr hl hp hg harrive hquiet,
      ?_, fun _ => ⟨fun m => ?_, ?_⟩, fun x => absurd h x⟩
    · rw [hst, if_neg (by decide)]
      exact eq_of_still (by simp) (by simp) hgate
    · show (((s.addRead e).latch i .drop).count i .surplus).stream m = _
      rw [count_stream, latch_stream, latch_stream, if_pos rfl]
      split <;> rfl
    · exact statusBecomes_settle rfl fun r =>
        (mem_latch (s.addRead e)).trans (or_congr Iff.rfl List.mem_singleton.symm)

end Sys2Proof.Machine
end

-- The assignment of a position, and the reads whose position is given up (R35, R36, R38, R83).
section
namespace Sys2Proof.Machine

open Sys2Proof

/-! ### Accumulators -/

/-- The next positions after one path's accumulator is changed. -/
theorem bind_next_set (x : PathPair (Option Accumulator)) (p q : Path) (g : Accumulator → Accumulator) :
    ((x.set p ((x.get p).map g)).get q).bind (·.next) =
      if q = p then (x.get p).bind (fun a => (g a).next) else (x.get q).bind (·.next) := by
  split
  · next h => subst h; rw [PathPair.get_set]; cases x.get q <;> rfl
  · next h => rw [PathPair.get_set_ne x _ h]

/-- A change of one path's accumulator that keeps its next position keeps all next positions. -/
theorem bind_next_set_keeps (x : PathPair (Option Accumulator)) (p q : Path) (g : Accumulator → Accumulator)
    (hg : ∀ a, (g a).next = a.next) :
    ((x.set p ((x.get p).map g)).get q).bind (·.next) = (x.get q).bind (·.next) := by
  rw [bind_next_set]
  split
  · next h => subst h; simp only [hg]
  · rfl

/-- A change of one path's accumulator leaves every path with or without one. -/
theorem isSome_set (x : PathPair (Option Accumulator)) (p q : Path) (g : Accumulator → Accumulator) :
    ((x.set p ((x.get p).map g)).get q).isSome = (x.get q).isSome := by
  by_cases h : q = p
  · subst h; rw [PathPair.get_set, Option.isSome_map]
  · rw [PathPair.get_set_ne x _ h]

/-- A head that is set changes neither the next position nor the drop mode of a path. -/
theorem setHead_next (x : PathPair (Option Accumulator)) (p q : Path) (h : Nat) :
    ((setHead x p h).get q).bind (·.next) = (x.get q).bind (·.next) :=
  bind_next_set_keeps x p q _ fun _ => rfl

theorem setHead_isSome (x : PathPair (Option Accumulator)) (p q : Path) (h : Nat) :
    ((setHead x p h).get q).isSome = (x.get q).isSome := isSome_set x p q _

theorem setHead_drop (x : PathPair (Option Accumulator)) (p q : Path) (h : Nat) :
    ((setHead x p h).get q).map (·.drop) = (x.get q).map (·.drop) := by
  unfold setHead
  by_cases hq : q = p
  · subst hq; rw [PathPair.get_set]; cases x.get q <;> rfl
  · rw [PathPair.get_set_ne x _ hq]

/-! ### What an assignment leaves of a stream, beside its accumulators and q_head -/

/-- A stream without its accumulators and its q_head. -/
def Stream.body (st : Stream) : Stream := { st with acc := ⟨none, none⟩, qHead := none }

/-- A stream of the same body differs in the accumulators and q_head alone. -/
theorem eq_of_body {st x : Stream} (h : x.body = st.body) : x = { st with acc := x.acc, qHead := x.qHead } := by
  obtain ⟨_⟩ := st
  obtain ⟨_⟩ := x
  simp only [Stream.body, Stream.mk.injEq] at h
  simp_all

/-- A field other than those two is the same in streams of the same body. -/
theorem field_of_body {α : Type} {st x : Stream} (f : Stream → α) (h : x.body = st.body)
    (hf : ∀ y : Stream, f y.body = f y := by exact fun _ => rfl) : f x = f st :=
  (hf x).symm.trans ((congrArg f h).trans (hf st))

/-- R6: the trimming of the offset schedule changes the schedule alone. -/
theorem trimOffsets_eq (st : Stream) : st.trimOffsets = { st with offsets := st.trimOffsets.offsets } := by
  unfold Stream.trimOffsets
  split
  · split <;> rfl
  · rfl

theorem trimOffsets_body (st : Stream) :
    st.trimOffsets.body = { st.body with offsets := st.trimOffsets.offsets } :=
  congrArg Stream.body (trimOffsets_eq st)

/-- R6: a stream whose schedule has been trimmed, by one of the same body. -/
theorem trimOffsets_of_body {st x : Stream} (h : x.body = st.body) :
    x.trimOffsets =
      { st with
        acc := x.trimOffsets.acc, qHead := x.trimOffsets.qHead, offsets := x.trimOffsets.offsets } := by
  have hbody : x.trimOffsets.body = Stream.body { st with offsets := x.trimOffsets.offsets } := by
    rw [trimOffsets_body, h]; rfl
  exact eq_of_body hbody

@[simp] theorem trimOffsets_acc (st : Stream) : st.trimOffsets.acc = st.acc := by rw [trimOffsets_eq]
@[simp] theorem trimOffsets_nextOf (st : Stream) (q : Path) : st.trimOffsets.nextOf q = st.nextOf q := by
  rw [trimOffsets_eq]; rfl

section Ops

variable (s : State) (i : StreamId)

theorem refreshHeads_body : ((s.refreshHeads i).stream i).body = (s.stream i).body := by
  simp [State.refreshHeads, Stream.body]

theorem refreshHeads_nextOf (q : Path) : ((s.refreshHeads i).stream i).nextOf q = (s.stream i).nextOf q := by
  simp [State.refreshHeads, Stream.nextOf, setHead_next]

theorem refreshHeads_isSome (q : Path) :
    (((s.refreshHeads i).stream i).acc.get q).isSome = ((s.stream i).acc.get q).isSome := by
  simp [State.refreshHeads, setHead_isSome]

theorem refreshHeads_drop (q : Path) :
    (((s.refreshHeads i).stream i).acc.get q).map (·.drop) = ((s.stream i).acc.get q).map (·.drop) := by
  simp [State.refreshHeads, setHead_drop]

theorem setDrop_body (p : Path) (d : Option Nat) : ((s.setDrop i p d).stream i).body = (s.stream i).body := by
  simp [State.setDrop, Stream.body]

theorem setDrop_nextOf (p q : Path) (d : Option Nat) :
    ((s.setDrop i p d).stream i).nextOf q = (s.stream i).nextOf q := by
  simp only [State.setDrop, updStream_stream, Stream.nextOf]
  exact bind_next_set_keeps _ p q _ fun _ => rfl

theorem setDrop_isSome (p q : Path) (d : Option Nat) :
    (((s.setDrop i p d).stream i).acc.get q).isSome = ((s.stream i).acc.get q).isSome := by
  simp [State.setDrop, isSome_set]

theorem setDrop_drop (p : Path) (d : Option Nat) :
    (((s.setDrop i p d).stream i).acc.get p).map (·.drop) = ((s.stream i).acc.get p).map fun _ => d := by
  simp [State.setDrop, Function.comp_def]

theorem advance_body (p : Path) (np : NextPos) : ((s.advance i p np).stream i).body = (s.stream i).body := by
  simp [State.advance, Stream.body]

theorem advance_nextOf (p q : Path) (np : NextPos) (h : (s.stream i).nextOf p = some np) :
    ((s.advance i p np).stream i).nextOf q =
      if q = p then some (posStep (s.stream i).active np) else (s.stream i).nextOf q := by
  simp only [State.advance, updStream_stream, Stream.nextOf, bind_next_set]
  split
  · obtain ⟨a, ha, _⟩ := Option.bind_eq_some_iff.1 h
    rw [ha]; rfl
  · rfl

theorem advance_drop (p : Path) (np : NextPos) :
    (((s.advance i p np).stream i).acc.get p).map (·.drop) = ((s.stream i).acc.get p).map (·.drop) := by
  simp [State.advance, Function.comp_def]

/-- R36: the end of a frame changes the drop mode of its stream-path alone. -/
theorem endFrame_body (e : HeldRead) (n : Nat) :
    ((s.endFrame e n).stream e.stream).body = (s.stream e.stream).body := by
  unfold State.endFrame
  split
  · exact setDrop_body s e.stream e.path none
  · rfl

theorem endFrame_nextOf (e : HeldRead) (n : Nat) (q : Path) :
    ((s.endFrame e n).stream e.stream).nextOf q = (s.stream e.stream).nextOf q := by
  unfold State.endFrame
  split
  · exact setDrop_nextOf s e.stream e.path q none
  · rfl

theorem endFrame_isSome (e : HeldRead) (n : Nat) (q : Path) :
    (((s.endFrame e n).stream e.stream).acc.get q).isSome = ((s.stream e.stream).acc.get q).isSome := by
  unfold State.endFrame
  split
  · exact setDrop_isSome s e.stream e.path q none
  · rfl

theorem endFrame_drop (e : HeldRead) (n : Nat) :
    (((s.endFrame e n).stream e.stream).acc.get e.path).map (·.drop) =
      (((s.stream e.stream).acc.get e.path).map (·.drop)).map fun d =>
        if n + 1 = (s.stream e.stream).active.positions then none else d := by
  rw [Option.map_map]
  unfold State.endFrame
  split
  · exact setDrop_drop s e.stream e.path none
  · rfl

end Ops

/-! ### The consumption of a position (R16, R83) -/

theorem unconsumed_isEmpty_iff (s : State) (i : StreamId) (p : Path) :
    (s.unconsumed i p).isEmpty = true ↔
      ∀ e ∈ s.gate.held, e.stream = i → e.path = p → e.phase ≠ .waiting ∧ e.phase ≠ .eligible := by
  simp only [State.unconsumed, List.isEmpty_iff, List.filter_eq_nil_iff, HeldRead.unconsumed, Bool.and_eq_true,
    decide_eq_true_eq, Bool.or_eq_true, beq_iff_eq, not_and, not_or, and_imp, ne_eq]

/-- R16: the drain of a stream is complete: f_stop is present and every path stands past it with nothing unconsumed. -/
theorem drainComplete_iff (s : State) (i : StreamId) :
    s.drainComplete i = true ↔ ∃ f, (s.stream i).fStop = some f ∧ DrainedThrough s i f := by
  cases hf : (s.stream i).fStop with
  | none => simp [State.drainComplete, hf]
  | some f =>
    simp only [State.drainComplete, hf, List.all_eq_true, Bool.and_eq_true, mem_paths_iff_inSet,
      unconsumed_isEmpty_iff, Option.some.injEq, exists_eq_left', DrainedThrough, PathsThrough]
    refine forall_congr' fun p => imp_congr_right fun _ => and_congr_left fun _ => ?_
    show (match (s.stream i).nextOf p with | none => false | some np => decide (f < np.frame.frame)) = true ↔ _
    cases (s.stream i).nextOf p <;> simp

/-- The drain's completion depends on f_stop, the path set, the next positions and the table. -/
theorem drainComplete_refreshHeads (s : State) (i : StreamId) :
    (s.refreshHeads i).drainComplete i = s.drainComplete i := by
  have hbody := refreshHeads_body s i
  have hstop : ((s.refreshHeads i).stream i).fStop = (s.stream i).fStop := field_of_body _ hbody
  have hset : ((s.refreshHeads i).stream i).active = (s.stream i).active := field_of_body _ hbody
  have hnext : ((s.refreshHeads i).stream i).nextOf = (s.stream i).nextOf := funext (refreshHeads_nextOf s i)
  rw [Bool.eq_iff_iff, drainComplete_iff, drainComplete_iff]
  simp only [DrainedThrough, hstop, hset, hnext]
  rfl

/-- A consumption that completes the drain takes the stream to IDLE. -/
theorem consume_stream_of_drained {s : State} {i : StreamId} (h : (s.stream i).state = .draining)
    (hc : s.drainComplete i = true) : (s.consume i).stream i = idleOf (s.stream i) := by
  have hstate : ((s.refreshHeads i).stream i).state = .draining :=
    (field_of_body Stream.state (refreshHeads_body s i)).trans h
  have hidle : (s.consume i).stream i = idleOf ((s.refreshHeads i).stream i) := by
    simp only [State.consume, State.drainCheck, hstate, drainComplete_refreshHeads, hc, decide_true,
      Bool.and_self, if_true, State.enterIdle, latch_stream, setStreamState_stream, updStream_stream]
    rfl
  rw [hidle, State.refreshHeads, updStream_stream]
  rfl

/-- Any other leaves the stream with its heads formed anew. -/
theorem consume_of_not_drained {s : State} {i : StreamId}
    (h : ¬((s.stream i).state = .draining ∧ s.drainComplete i = true)) : s.consume i = s.refreshHeads i := by
  have hstate : ((s.refreshHeads i).stream i).state = (s.stream i).state :=
    field_of_body _ (refreshHeads_body s i)
  unfold State.consume State.drainCheck
  rw [hstate, drainComplete_refreshHeads, if_neg]
  simpa using h

/-! ### What an operation on one stream leaves alone -/

/-- An operation that changes one stream alone, and of the Status Writer queues that stream's record at most. -/
structure OnlyStream (i : StreamId) (s t : State) : Prop where
  others : ∀ m, m ≠ i → t.stream m = s.stream m
  status : t.status = { s.status with updates := t.status.updates }
  kept : ∀ r, r ∈ s.status.updates → r ∈ t.status.updates
  queued : ∀ r, r ∈ t.status.updates → r ∈ s.status.updates ∨ r = .stream i

namespace OnlyStream

variable {i : StreamId} {s t u : State}

theorem refl (i : StreamId) (s : State) : OnlyStream i s s :=
  ⟨fun _ _ => rfl, rfl, fun _ => id, fun _ => Or.inl⟩

theorem trans (h : OnlyStream i s t) (h' : OnlyStream i t u) : OnlyStream i s u where
  others m hm := (h'.others m hm).trans (h.others m hm)
  status := by rw [h'.status, h.status]
  kept r hr := h'.kept r (h.kept r hr)
  queued r hr := (h'.queued r hr).elim (h.queued r) Or.inr

theorem withGate (h : OnlyStream i s t) (g : Gate) : OnlyStream i s (t.withGate g) :=
  h.trans ⟨fun _ _ => rfl, rfl, fun _ => id, fun _ => Or.inl⟩

theorem updStream (h : OnlyStream i s t) (f : Stream → Stream) : OnlyStream i s (t.updStream i f) :=
  h.trans ⟨fun _ hm => updStream_stream_ne t f hm, rfl, fun _ => id, fun _ => Or.inl⟩

theorem queueRecord (h : OnlyStream i s t) : OnlyStream i s (t.queueRecord (.stream i)) :=
  h.trans ⟨fun _ _ => rfl, rfl, fun _ hr => (mem_queueRecord t).2 (.inl hr), fun _ => (mem_queueRecord t).1⟩

theorem latch (h : OnlyStream i s t) (e : StreamEvent) : OnlyStream i s (t.latch i e) :=
  (h.updStream _).queueRecord

theorem count (h : OnlyStream i s t) (c : StreamCounter) : OnlyStream i s (t.count i c) := h.updStream _

theorem drainCheck (h : OnlyStream i s t) : OnlyStream i s (t.drainCheck i) := by
  unfold State.drainCheck
  split
  · exact (((h.updStream Stream.idled).updStream _).queueRecord).latch .idled
  · exact h

theorem dropRead {e : HeldRead} (h : OnlyStream e.stream s t) : OnlyStream e.stream s (t.dropRead e) :=
  ((((h.withGate _).latch .drop).count .dropped).updStream _).drainCheck

theorem endFrame {e : HeldRead} (h : OnlyStream e.stream s t) (n : Nat) :
    OnlyStream e.stream s (t.endFrame e n) := by
  unfold State.endFrame
  split
  · exact h.updStream _
  · exact h

end OnlyStream

section Frame

variable (s : State)

@[simp] theorem drainCheck_beside (i : StreamId) : (s.drainCheck i).beside = s.beside := by
  unfold State.drainCheck State.enterIdle; split <;> simp
@[simp] theorem refreshHeads_beside (i : StreamId) : (s.refreshHeads i).beside = s.beside := rfl
@[simp] theorem consume_beside (i : StreamId) : (s.consume i).beside = s.beside := by simp [State.consume]
@[simp] theorem dropRead_beside (e : HeldRead) : (s.dropRead e).beside = s.beside := by simp [State.dropRead]
@[simp] theorem setDrop_beside (i : StreamId) (p : Path) (d : Option Nat) :
    (s.setDrop i p d).beside = s.beside := rfl
@[simp] theorem advance_beside (i : StreamId) (p : Path) (np : NextPos) :
    (s.advance i p np).beside = s.beside := rfl
@[simp] theorem endFrame_beside (e : HeldRead) (n : Nat) : (s.endFrame e n).beside = s.beside := by
  unfold State.endFrame; split <;> simp

@[simp] theorem drainCheck_gate (i : StreamId) : (s.drainCheck i).gate = s.gate := by
  unfold State.drainCheck; split <;> rfl
@[simp] theorem consume_gate (i : StreamId) : (s.consume i).gate = s.gate := drainCheck_gate _ i
@[simp] theorem dropRead_gate (e : HeldRead) : (s.dropRead e).gate = (s.answerError e.ticket).gate :=
  consume_gate _ _
@[simp] theorem endFrame_gate (e : HeldRead) (n : Nat) : (s.endFrame e n).gate = s.gate := by
  unfold State.endFrame; split <;> rfl

end Frame

/-! ### The assignment (R38) -/

/-- R8: no record is taken where none is marked for the frame. -/
theorem takeApply_of_unmarked {s : State} {i : StreamId} {f : Nat}
    (h : ∀ r, (s.stream i).pendingApply = some r → r.frame ≠ some f) : s.takeApply i f = s := by
  unfold State.takeApply
  split
  · rfl
  · next r hr => rw [if_neg (h r hr)]

@[simp] theorem assignedOf_advance (s : State) (e : HeldRead) (np : NextPos) :
    (s.advance e.stream e.path np).assignedOf e np = s.assignedOf e np := by
  simp [State.advance, State.assignedOf, Stream.lineAt, Stream.launchTime]

/-- R38: the assignment of a read that is not surplus. -/
theorem assign_of_next {s : State} {e : HeldRead} {a : Accumulator} {np : NextPos}
    (ha : (s.stream e.stream).acc.get e.path = some a) (hn : a.next = some np)
    (hb : ¬((s.stream e.stream).state = .draining ∧ ∃ f, (s.stream e.stream).fStop = some f ∧ f < np.frame.frame)) :
    s.assign e =
      ((((s.advance e.stream e.path np).takeApply e.stream np.frame.frame).judge e
        (((s.advance e.stream e.path np).takeApply e.stream np.frame.frame).assignedOf e np) a.drop).endFrame e
          np.n).updStream e.stream Stream.trimOffsets := by
  unfold State.assign
  simp only [ha, hn]
  rw [if_neg]
  simp only [Bool.and_eq_true, decide_eq_true_eq, not_and] at hb ⊢
  intro hd
  cases hf : (s.stream e.stream).fStop with
  | none => simp
  | some f => simpa using fun h => hb hd ⟨f, hf, h⟩

/-- R38: the same where it takes no pending-apply record. -/
theorem assign_unmarked {s : State} {e : HeldRead} {a : Accumulator} {np : NextPos}
    (ha : (s.stream e.stream).acc.get e.path = some a) (hn : a.next = some np)
    (hb : ¬((s.stream e.stream).state = .draining ∧ ∃ f, (s.stream e.stream).fStop = some f ∧ f < np.frame.frame))
    (hr : ∀ r, (s.stream e.stream).pendingApply = some r → r.frame ≠ some np.frame.frame) :
    s.assign e =
      (((s.advance e.stream e.path np).judge e (s.assignedOf e np) a.drop).endFrame e np.n).updStream e.stream
        Stream.trimOffsets := by
  have hpending : ((s.advance e.stream e.path np).stream e.stream).pendingApply =
      (s.stream e.stream).pendingApply := field_of_body _ (advance_body s e.stream e.path np)
  rw [assign_of_next ha hn hb, takeApply_of_unmarked (fun r h => hr r (hpending ▸ h)), assignedOf_advance]

end Sys2Proof.Machine
end

-- The reads whose position is given up (R35, R36, R83).
section
namespace Sys2Proof.Machine

open Sys2Proof

/-! ### Reads whose position is given up (R35, R36, R83) -/

/-- R36: a slip: drop mode is set for the frame and SLIP is latched. -/
def State.slip (s : State) (e : HeldRead) (f : Nat) : State :=
  (s.setDrop e.stream e.path (some f)).latch e.stream .slip

/-- R35, R36: the judgement of a read whose position is given up. -/
theorem judge_of_given_up {s : State} {e : HeldRead} {a : Assigned} {drop : Option Nat} {slips : Prop}
    [Decidable slips]
    (hslips : slips ↔ a.release + (s.stream e.stream).active.lateLimit < s.time.now ∧
      ¬a.line < (s.stream e.stream).qHead.getD 0 ∧ ¬drop = some a.frame)
    (h : drop = some a.frame ∨ a.line < (s.stream e.stream).qHead.getD 0 ∨ slips) :
    s.judge e a drop = (if slips then s.slip e a.frame else s).dropRead e := by
  simp only [State.judge]
  by_cases hd : drop = some a.frame
  · rw [if_pos hd, if_neg fun x => (hslips.1 x).2.2 hd]
  · rw [if_neg hd]
    by_cases hp : a.line < (s.stream e.stream).qHead.getD 0
    · rw [if_pos hp, if_neg fun x => (hslips.1 x).2.1 hp]
    · have hs := (h.resolve_left hd).resolve_left hp
      rw [if_neg hp, if_pos (hslips.1 hs).1, if_pos hs]
      rfl

section Slip

variable (s : State) (e : HeldRead) (f : Nat)

theorem slip_stream : (s.slip e f).stream e.stream =
    { (s.setDrop e.stream e.path (some f)).stream e.stream with
      events := (s.stream e.stream).events ||| 64#16 } := by
  simp only [State.slip, latch_stream, State.setDrop, updStream_stream, if_true]
  rfl

theorem slip_body : ((s.slip e f).stream e.stream).body =
    { (s.stream e.stream).body with events := (s.stream e.stream).events ||| 64#16 } := by
  rw [slip_stream, ← setDrop_body s e.stream e.path (some f)]
  rfl

theorem slip_nextOf (q : Path) : ((s.slip e f).stream e.stream).nextOf q = (s.stream e.stream).nextOf q := by
  rw [slip_stream, ← setDrop_nextOf s e.stream e.path q (some f)]
  rfl

theorem slip_drop : (((s.slip e f).stream e.stream).acc.get e.path).map (·.drop) =
    ((s.stream e.stream).acc.get e.path).map fun _ => some f := by
  rw [slip_stream, ← setDrop_drop s e.stream e.path (some f)]

@[simp] theorem slip_still : (s.slip e f).still = s.still := by simp [State.slip]
@[simp] theorem slip_beside : (s.slip e f).beside = s.beside := by simp [State.slip]
@[simp] theorem slip_gate : (s.slip e f).gate = s.gate := rfl

end Slip

/-- R35: what a dropped read latches and counts. -/
def Stream.dropped (st : Stream) : Stream :=
  { st with events := st.events ||| 32#16, counters := bump st.counters 5 }

/-- R35: a dropped read up to the consumption of its position. -/
def State.noteDrop (s : State) (e : HeldRead) : State :=
  ((s.answerError e.ticket).latch e.stream .drop).count e.stream .dropped

theorem noteDrop_stream (s : State) (e : HeldRead) :
    (s.noteDrop e).stream e.stream = (s.stream e.stream).dropped := by
  rw [State.noteDrop, count_stream, if_pos rfl, latch_stream, if_pos rfl]
  rfl

/-- R83: whether a dropped read ends its stream's drain. -/
theorem drainEnds_noteDrop (s : State) (e : HeldRead) :
    (((s.noteDrop e).stream e.stream).state = .draining ∧ (s.noteDrop e).drainComplete e.stream = true) ↔
      DrainEnds (s.stream e.stream) (s.answerError e.ticket).gate.held e.stream (s.stream e.stream).nextOf := by
  simp only [drainComplete_iff, DrainedThrough, noteDrop_stream]
  rfl

/-- R83: a dropped read that ends the drain. -/
theorem dropRead_stream_of_ends {s : State} {e : HeldRead}
    (h : DrainEnds (s.stream e.stream) (s.answerError e.ticket).gate.held e.stream (s.stream e.stream).nextOf) :
    (s.dropRead e).stream e.stream = idleOf (s.stream e.stream).dropped := by
  obtain ⟨hst, hc⟩ := (drainEnds_noteDrop s e).2 h
  rw [← noteDrop_stream]
  exact consume_stream_of_drained hst hc

/-- R83: a dropped read that does not. -/
theorem dropRead_of_not_ends {s : State} {e : HeldRead}
    (h : ¬DrainEnds (s.stream e.stream) (s.answerError e.ticket).gate.held e.stream (s.stream e.stream).nextOf) :
    s.dropRead e = (s.noteDrop e).refreshHeads e.stream :=
  consume_of_not_drained (mt (drainEnds_noteDrop s e).1 h)

/-- An entry that is answered holds no position. -/
theorem pathsThrough_append {set : PathSet} {held : List HeldRead} {e : HeldRead} {i : StreamId} {f : Nat}
    {next : Path → Option NextPos} (he : e.phase = .forwarded) :
    PathsThrough set (held ++ [e]) i f next ↔ PathsThrough set held i f next := by
  refine forall_congr' fun p => imp_congr_right fun _ => and_congr_right fun _ => ?_
  simp [or_imp, forall_and, he]

/-- R38: the end of an assignment in IDLE changes the offset schedule at most. -/
theorem endFrame_stream_of_idled {s : State} {e : HeldRead} {st : Stream} (n : Nat)
    (h : s.stream e.stream = idleOf st) : (s.endFrame e n).stream e.stream = idleOf st := by
  unfold State.endFrame
  split
  · rw [State.setDrop, updStream_stream, h]
    cases e.path <;> rfl
  · exact h

/-- R33, R36: the state in which a read is dropped: its position is taken and, where it slips, drop mode set. -/
def State.passOver (s : State) (e : HeldRead) (np : NextPos) (slips : Prop) [Decidable slips] : State :=
  if slips then (s.advance e.stream e.path np).slip e np.frame.frame else s.advance e.stream e.path np

section PassOver

variable (s : State) (e : HeldRead) (np : NextPos) (slips : Prop) [Decidable slips]

@[simp] theorem passOver_still : (s.passOver e np slips).still = s.still := by
  unfold State.passOver; split <;> simp
@[simp] theorem passOver_beside : (s.passOver e np slips).beside = s.beside := by
  unfold State.passOver; split <;> simp
@[simp] theorem passOver_gate : (s.passOver e np slips).gate = s.gate := by
  unfold State.passOver; split <;> rfl

theorem passOver_only : OnlyStream e.stream s (s.passOver e np slips) := by
  have h := (OnlyStream.refl e.stream s).updStream
    fun st => { st with
      acc := st.acc.set e.path ((st.acc.get e.path).map fun a => { a with next := some (posStep st.active np) }) }
  unfold State.passOver
  split
  · exact (h.updStream _).latch .slip
  · exact h

theorem passOver_body : ((s.passOver e np slips).stream e.stream).body =
    Stream.body { s.stream e.stream with
      events := (s.stream e.stream).events ||| if slips then 64#16 else 0#16 } := by
  have h := advance_body s e.stream e.path np
  have hevents := field_of_body Stream.events h
  unfold State.passOver
  split
  · rw [slip_body, h, hevents]; rfl
  · rw [BitVec.or_zero]; exact h

theorem passOver_nextOf (q : Path) (h : (s.stream e.stream).nextOf e.path = some np) :
    ((s.passOver e np slips).stream e.stream).nextOf q =
      if q = e.path then some (posStep (s.stream e.stream).active np) else (s.stream e.stream).nextOf q := by
  rw [← advance_nextOf s e.stream e.path q np h]
  unfold State.passOver
  split
  · exact slip_nextOf _ e np.frame.frame q
  · rfl

theorem passOver_drop : (((s.passOver e np slips).stream e.stream).acc.get e.path).map (·.drop) =
    (((s.stream e.stream).acc.get e.path).map (·.drop)).map fun d => if slips then some np.frame.frame else d := by
  rw [← advance_drop s e.stream e.path np, Option.map_map]
  unfold State.passOver
  split
  · exact slip_drop _ e np.frame.frame
  · rfl

end PassOver

/-- R35, R38: a read is dropped and its assignment ends. -/
def State.giveUp (s : State) (e : HeldRead) (n : Nat) : State :=
  ((s.dropRead e).endFrame e n).updStream e.stream Stream.trimOffsets

section GiveUp

variable {s : State} {e : HeldRead} {n : Nat}

@[simp] theorem giveUp_still : (s.giveUp e n).still = s.still := by simp [State.giveUp]
@[simp] theorem giveUp_beside : (s.giveUp e n).beside = s.beside := by simp [State.giveUp]
@[simp] theorem giveUp_gate : (s.giveUp e n).gate = (s.answerError e.ticket).gate := by simp [State.giveUp]

theorem OnlyStream.giveUp {b : State} (h : OnlyStream e.stream b s) : OnlyStream e.stream b (s.giveUp e n) :=
  (h.dropRead.endFrame n).updStream _

/-- R35: a dropped read queues its stream's record. -/
theorem mem_giveUp_updates : .stream e.stream ∈ (s.giveUp e n).status.updates :=
  ((((OnlyStream.refl e.stream (s.noteDrop e)).updStream _).drainCheck.endFrame n).updStream _).kept _
    ((mem_latch (s.answerError e.ticket)).2 (.inr rfl))

/-- R83: a read dropped as the last of its drain leaves the stream IDLE. -/
theorem giveUp_stream_of_ends {st : Stream} (hbody : (s.stream e.stream).body = st.body)
    (h : DrainEnds (s.stream e.stream) (s.answerError e.ticket).gate.held e.stream (s.stream e.stream).nextOf) :
    (s.giveUp e n).stream e.stream =
      { idleOf st.dropped with offsets := ((s.giveUp e n).stream e.stream).offsets } := by
  have hidle : (s.giveUp e n).stream e.stream = (idleOf (s.stream e.stream).dropped).trimOffsets := by
    rw [State.giveUp, updStream_stream, endFrame_stream_of_idled n (dropRead_stream_of_ends h)]
  rw [hidle]
  calc (idleOf (s.stream e.stream).dropped).trimOffsets
      = { idleOf (s.stream e.stream).dropped with
          offsets := (idleOf (s.stream e.stream).dropped).trimOffsets.offsets } := trimOffsets_eq _
    _ = _ := by rw [eq_of_body hbody]; rfl

/-- R35: any other dropped read leaves its stream on air, its next positions as they were. -/
theorem giveUp_stream_of_not_ends {st : Stream} (hbody : (s.stream e.stream).body = st.body)
    (h : ¬DrainEnds (s.stream e.stream) (s.answerError e.ticket).gate.held e.stream (s.stream e.stream).nextOf) :
    (s.giveUp e n).stream e.stream =
      { st.dropped with
        acc := ((s.giveUp e n).stream e.stream).acc, qHead := ((s.giveUp e n).stream e.stream).qHead
        offsets := ((s.giveUp e n).stream e.stream).offsets } := by
  have hdropped : (((s.dropRead e).endFrame e n).stream e.stream).body = st.dropped.body := by
    rw [endFrame_body, dropRead_of_not_ends h, refreshHeads_body, noteDrop_stream]
    exact congrArg Stream.dropped hbody
  rw [State.giveUp, updStream_stream]
  exact trimOffsets_of_body hdropped

theorem giveUp_nextOf_of_not_ends (q : Path)
    (h : ¬DrainEnds (s.stream e.stream) (s.answerError e.ticket).gate.held e.stream (s.stream e.stream).nextOf) :
    ((s.giveUp e n).stream e.stream).nextOf q = (s.stream e.stream).nextOf q := by
  rw [State.giveUp, updStream_stream, trimOffsets_nextOf, endFrame_nextOf, dropRead_of_not_ends h,
    refreshHeads_nextOf, noteDrop_stream]
  rfl

theorem giveUp_drop_of_not_ends
    (h : ¬DrainEnds (s.stream e.stream) (s.answerError e.ticket).gate.held e.stream (s.stream e.stream).nextOf) :
    (((s.giveUp e n).stream e.stream).acc.get e.path).map (·.drop) =
      (((s.stream e.stream).acc.get e.path).map (·.drop)).map fun d =>
        if n + 1 = (s.stream e.stream).active.positions then none else d := by
  have hactive := field_of_body Stream.active (refreshHeads_body (s.noteDrop e) e.stream)
  rw [State.giveUp, updStream_stream, trimOffsets_acc, endFrame_drop, dropRead_of_not_ends h, refreshHeads_drop]
  simp only [hactive, noteDrop_stream]
  rfl

/-- R160: of the Status Writer, a dropped read leaves its stream's record queued beside those that were. -/
theorem mem_updates_giveUp_iff {b : State} (h : OnlyStream e.stream b s) (r : RecordId) :
    r ∈ (s.giveUp e n).status.updates ↔ r ∈ b.status.updates ∨ r ∈ [RecordId.stream e.stream] := by
  rw [List.mem_singleton]
  refine ⟨h.giveUp.queued r, ?_⟩
  rintro (hr | rfl)
  · exact h.giveUp.kept r hr
  · exact mem_giveUp_updates

end GiveUp

/-- R38: the assignment of a read whose position is given up. -/
theorem assign_of_given_up {s : State} {e : HeldRead} {a : Accumulator} {np : NextPos} {slips : Prop}
    [Decidable slips] (ha : (s.stream e.stream).acc.get e.path = some a) (hn : a.next = some np)
    (hb : ¬((s.stream e.stream).state = .draining ∧ ∃ f, (s.stream e.stream).fStop = some f ∧ f < np.frame.frame))
    (hr : ∀ r, (s.stream e.stream).pendingApply = some r → r.frame ≠ some np.frame.frame)
    (hslips : slips ↔
      (s.assignedOf e np).release + (s.stream e.stream).active.lateLimit < s.time.now ∧
        ¬(s.assignedOf e np).line < (s.stream e.stream).qHead.getD 0 ∧ ¬a.drop = some np.frame.frame)
    (h : a.drop = some np.frame.frame ∨ (s.assignedOf e np).line < (s.stream e.stream).qHead.getD 0 ∨ slips) :
    s.assign e = (s.passOver e np slips).giveUp e np.n := by
  have hstream : (s.advance e.stream e.path np).stream e.stream =
      { s.stream e.stream with acc := ((s.advance e.stream e.path np).stream e.stream).acc } := by
    simp [State.advance]
  rw [assign_unmarked ha hn hb hr, judge_of_given_up (slips := slips)]
  · rfl
  · rw [hstream]; exact hslips
  · rw [hstream]; exact h

/-- R34: a position that a DRAINING stream still serves. -/
theorem not_beyond {st : Stream} {f : Nat}
    (h : st.state = .armed ∨ st.state = .running ∨ st.state = .draining ∧ ∃ g, st.fStop = some g ∧ f ≤ g) :
    ¬(st.state = .draining ∧ ∃ g, st.fStop = some g ∧ g < f) := by
  rintro ⟨hd, g, hg, hlt⟩
  rcases h with h | h | ⟨_, g', hg', hle⟩
  · exact nomatch h.symm.trans hd
  · exact nomatch h.symm.trans hd
  · obtain rfl := Option.some.inj (hg.symm.trans hg')
    omega

/-- R69: the states in which an arriving read is assigned. -/
theorem assigns_of {st : Stream} {P : Prop} (h : st.state = .armed ∨ st.state = .running ∨ st.state = .draining ∧ P) :
    st.state = .armed ∨ st.state = .running ∨ st.state = .draining := h.imp_right (Or.imp_right And.left)

theorem nextOf_of_acc {st : Stream} {p : Path} {a : Accumulator} {np : NextPos} (ha : st.acc.get p = some a)
    (hn : a.next = some np) : st.nextOf p = some np := by
  rw [Stream.nextOf, ha]; exact hn

/-- R65: no entry has the next ticket. -/
theorem ticket_fresh {s : State} (h : HeldTableRight s) : ∀ x ∈ s.gate.held, x.ticket ≠ s.gate.nextTicket :=
  fun x hx => Nat.ne_of_lt (h.2.2 x hx)

/-- Settles O31: the position is passed over, the read given up, and the drain tested. -/
theorem gatedReadDropped : Obligations.GatedReadDropped := by
  intro tag addr len s i p j k a np hr hl hp hg htable hnothing hstate ha hn hunmarked
    st line launch release inDrop passed slips ends events hcase
  let e := newEntry s tag addr len i p j k
  let X := (s.addRead e).passOver e np slips
  have hrel : ((s.addRead e).assignedOf e np).release = release := by cases p <;> rfl
  have harrive : s.arrive i p tag addr len j k = X.giveUp e np.n :=
    (arrive_assigns s tag addr len i p j k (assigns_of hstate)).trans
      (assign_of_given_up (s := s.addRead e) (e := e) ha hn (not_beyond hstate) hunmarked
        (by rw [hrel]; exact Iff.rfl) hcase)
  have hgate : (X.answerError e.ticket).gate = { s.gate with
      nextTicket := s.gate.nextTicket + 1, held := s.gate.held ++ [failedRead e] } :=
    answerError_addRead_gate (passOver_gate _ e np slips) (ticket_fresh htable)
  have hugate : (X.giveUp e np.n).gate = { s.gate with
      nextTicket := s.gate.nextTicket + 1, held := s.gate.held ++ [failedRead e] } := giveUp_gate.trans hgate
  have hquiet : NothingToGrant (X.giveUp e np.n) :=
    nothingToGrant_append hnothing (by simp [X]) (by simp [X])
      (congrArg Gate.held hugate) (by simp [failedRead]) (by simp [failedRead])
  let noted : Stream := { st with events := st.events ||| if slips then 64#16 else 0#16 }
  have hbody : (X.stream i).body = noted.body :=
    passOver_body (s.addRead e) e np slips
  have hnext : (X.stream i).nextOf = fun q => if q = p then some (posStep st.active np) else st.nextOf q :=
    funext fun q => passOver_nextOf (s.addRead e) e np slips q (nextOf_of_acc ha hn)
  have hdrop : ((X.stream i).acc.get p).map (·.drop) = some (if slips then some np.frame.frame else a.drop) := by
    refine (passOver_drop (s.addRead e) e np slips).trans ?_
    rw [show ((s.addRead e).stream e.stream).acc.get e.path = some a from ha]
    rfl
  have hends : DrainEnds (X.stream i) (X.answerError e.ticket).gate.held i (X.stream i).nextOf ↔ ends := by
    rw [hgate, hnext]
    show DrainEnds (X.stream i).body _ _ _ ↔ _
    rw [hbody]
    exact and_congr_right fun _ => exists_congr fun f => and_congr_right fun _ => pathsThrough_append rfl
  have honly : OnlyStream e.stream s X :=
    ((OnlyStream.refl i s).withGate _).trans (passOver_only (s.addRead e) e np slips)
  refine ⟨settle s (X.giveUp e np.n), exec_gated_quiet hr hl hp hg harrive hquiet,
    eq_of_still (by simp [X]) (by simp [X]) ((settle_gate s _).trans hugate),
    fun m hm => (settle_stream s _ m).trans (honly.giveUp.others m hm), fun he => ?_, fun he => ?_,
    statusBecomes_settle honly.giveUp.status (mem_updates_giveUp_iff honly)⟩
  · rw [settle_stream]
    exact giveUp_stream_of_ends (e := e) hbody (hends.2 he)
  · have h := mt hends.1 he
    rw [settle_stream]
    refine ⟨giveUp_stream_of_not_ends (e := e) hbody h, ?_, ?_⟩
    · exact (giveUp_nextOf_of_not_ends (e := e) p h).trans ((congrFun hnext p).trans (if_pos rfl))
    · refine (giveUp_drop_of_not_ends (e := e) h).trans ?_
      rw [show ((X.stream e.stream).acc.get e.path).map (·.drop) = _ from hdrop,
        show (X.stream e.stream).active = st.active from field_of_body (st := noted) Stream.active hbody]
      rfl

end Sys2Proof.Machine
end

-- What the passage to ELIGIBLE and the grants of an event leave of the streams and of the held-read table (R73, R74, R100).
section
namespace Sys2Proof.Machine

open Sys2Proof

/-! ### What grants keep -/

/-- The request that an entry stands for, with its position: all but what its judgement and its answer change. -/
def HeldRead.request (x : HeldRead) : HeldRead :=
  { x with
    phase := .unassigned, outcome := none, snapshot := none, permit := none, deferred := false
    answer := .undecided }

theorem release_of_request {x y : HeldRead} (h : y.request = x.request) : y.release = x.release :=
  (congrArg HeldRead.release h :)

/-- R73, R74: how an entry's phase moves on at an instant: a WAITING entry becomes ELIGIBLE once it is due, and an
ELIGIBLE one FORWARDED. -/
def PhaseMoves (now : Nat) (x y : HeldRead) : Prop :=
  y.phase = x.phase ∨
    (x.phase = .waiting ∧ x.release ≤ now ∨ x.phase = .eligible) ∧ (y.phase = .eligible ∨ y.phase = .forwarded)

theorem PhaseMoves.trans {now : Nat} {x y z : HeldRead} (hr : y.request = x.request) (h : PhaseMoves now x y)
    (h' : PhaseMoves now y z) : PhaseMoves now x z := by
  rcases h with h | ⟨hx, hy⟩
  · rwa [PhaseMoves, h, release_of_request hr] at h'
  · rcases h' with h' | ⟨_, hz⟩
    · exact .inr ⟨hx, h' ▸ hy⟩
    · exact .inr ⟨hx, hz⟩

/-- R69: a read of a stream stands UNASSIGNED under a ticket. -/
def State.Awaits (s : State) (i : StreamId) (u : Nat) : Prop :=
  ∃ x ∈ s.gate.held, x.stream = i ∧ x.phase = .unassigned ∧ x.ticket = u

/-- What a run of a stream has fixed: the first frame, the frame clock's next record, which paths have an accumulator,
the next positions and the step from one position to the next. -/
structure Course where
  first : Option FirstFrame
  clockNext : Option FrameRec
  assigns : Path → Bool
  next : Path → Option NextPos
  step : NextPos → NextPos

def Stream.course (st : Stream) : Course :=
  ⟨st.first, st.clockNext, fun p => (st.acc.get p).isSome, st.nextOf, posStep st.active⟩

/-- What grants keep of a stream: the late count, the flags, the mismatch counts and, unless it is DRAINING, its state
and its course. -/
structure StreamKept (st x : Stream) : Prop where
  late : x.counters[4] = st.counters[4]
  events : ∀ n, st.events.getLsbD n = true → x.events.getLsbD n = true
  mismatches : x.mismatches = st.mismatches
  run : st.state ≠ .draining → x.state = st.state ∧ x.course = st.course

namespace StreamKept

theorem refl (st : Stream) : StreamKept st st := ⟨rfl, fun _ => id, rfl, fun _ => ⟨rfl, rfl⟩⟩

theorem trans {st x y : Stream} (h : StreamKept st x) (h' : StreamKept x y) : StreamKept st y where
  late := h'.late.trans h.late
  events n hn := h'.events n (h.events n hn)
  mismatches := h'.mismatches.trans h.mismatches
  run hd := by
    obtain ⟨hstate, hcourse⟩ := h.run hd
    obtain ⟨hstate', hcourse'⟩ := h'.run (hstate ▸ hd)
    exact ⟨hstate'.trans hstate, hcourse'.trans hcourse⟩

/-- A change of the accumulators that keeps the next positions. -/
theorem of_body {st x : Stream} (h : x.body = st.body) (ha : ∀ p, (x.acc.get p).isSome = (st.acc.get p).isSome)
    (hn : ∀ p, x.nextOf p = st.nextOf p) : StreamKept st x where
  late := field_of_body (fun y => y.counters[4]) h
  events n hn := (field_of_body Stream.events h).symm ▸ hn
  mismatches := field_of_body Stream.mismatches h
  run _ := ⟨field_of_body Stream.state h, by
    rw [Stream.course, funext hn, funext ha, field_of_body Stream.first h, field_of_body Stream.clockNext h,
      field_of_body Stream.active h]; rfl⟩

end StreamKept

/-- R73, R74: a state that follows another by passages to ELIGIBLE and by grants. -/
structure Onward (s t : State) : Prop where
  time : t.time = s.time
  tickets : t.tickets = s.tickets
  nextTicket : t.gate.nextTicket = s.gate.nextTicket
  streams : ∀ j, StreamKept (s.stream j) (t.stream j)
  awaits : ∀ i u, t.Awaits i u → s.Awaits i u
  held : s.tickets.Nodup →
    ∀ x ∈ s.gate.held, ∃ y ∈ t.gate.held, y.request = x.request ∧ PhaseMoves s.time.now x y

/-- Two entries of one ticket are one. -/
theorem eq_of_ticket {s : State} (h : s.tickets.Nodup) {x y : HeldRead} (hx : x ∈ s.gate.held)
    (hy : y ∈ s.gate.held) (ht : x.ticket = y.ticket) : x = y := List.inj_on_of_nodup_map h hx hy ht

theorem entry_eq_some {s : State} {u : Nat} {e : HeldRead} (h : s.entry u = some e) :
    e ∈ s.gate.held ∧ e.ticket = u :=
  ⟨List.mem_of_find?_eq_some h, by simpa using List.find?_some h⟩

namespace Onward

variable {s t : State}

theorem refl (s : State) : Onward s s :=
  ⟨rfl, rfl, rfl, fun _ => .refl _, fun _ _ => id, fun _ x hx => ⟨x, hx, rfl, .inl rfl⟩⟩

theorem trans {u : State} (h : Onward s t) (h' : Onward t u) : Onward s u where
  time := h'.time.trans h.time
  tickets := h'.tickets.trans h.tickets
  nextTicket := h'.nextTicket.trans h.nextTicket
  streams j := (h.streams j).trans (h'.streams j)
  awaits i v hv := h.awaits i v (h'.awaits i v hv)
  held hnd x hx := by
    obtain ⟨y, hy, hreq, hmove⟩ := h.held hnd x hx
    obtain ⟨z, hz, hreq', hmove'⟩ := h'.held (h.tickets ▸ hnd) y hy
    rw [h.time] at hmove'
    exact ⟨z, hz, hreq'.trans hreq, hmove.trans hreq hmove'⟩

/-- An operation that leaves the table and the time base. -/
theorem of_gate (ht : t.time = s.time) (hg : t.gate = s.gate) (hk : ∀ j, StreamKept (s.stream j) (t.stream j)) :
    Onward s t where
  time := ht
  tickets := by rw [State.tickets, hg]; rfl
  nextTicket := by rw [hg]
  streams := hk
  awaits i u := by rw [State.Awaits, hg]; exact id
  held _ x hx := ⟨x, hg ▸ hx, rfl, .inl rfl⟩

/-- An operation that leaves the streams as well. -/
theorem of_streams (h : Onward s t) {u : State} (ht : u.time = t.time) (hg : u.gate = t.gate)
    (hs : u.streams = t.streams) : Onward s u :=
  h.trans (of_gate ht hg fun j => by
    show StreamKept t.streams[j.val] u.streams[j.val]
    rw [hs]
    exact .refl _)

theorem updPath (h : Onward s t) (p : Path) (f : PathState → PathState) : Onward s (t.updPath p f) :=
  h.of_streams rfl rfl rfl

/-- An operation that leaves the table, the time base and all streams but one. -/
theorem of_stream (h : Onward s t) {u : State} (i : StreamId) (ht : u.time = t.time) (hg : u.gate = t.gate)
    (ho : ∀ j, j ≠ i → u.stream j = t.stream j) (hk : StreamKept (t.stream i) (u.stream i)) : Onward s u :=
  h.trans (of_gate ht hg fun j => by
    by_cases hj : j = i
    · exact hj ▸ hk
    · rw [ho j hj]; exact .refl _)

theorem updStream (h : Onward s t) (i : StreamId) (f : Stream → Stream)
    (hk : StreamKept (t.stream i) (f (t.stream i))) : Onward s (t.updStream i f) :=
  h.of_stream i rfl rfl (fun _ => updStream_stream_ne t f) (by rwa [updStream_stream])

theorem latch (h : Onward s t) (i : StreamId) (e : StreamEvent) : Onward s (t.latch i e) := by
  refine h.of_stream i rfl rfl ((OnlyStream.refl i t).latch e).others ?_
  rw [latch_stream, if_pos rfl]
  exact ⟨rfl, fun n hn => by rw [BitVec.getLsbD_or, hn, Bool.true_or], rfl, fun _ => ⟨rfl, rfl⟩⟩

theorem count (h : Onward s t) (i : StreamId) {c : StreamCounter} (hc : c ≠ .late) : Onward s (t.count i c) := by
  have hne : (streamCounterIndex c).val ≠ 4 := by
    cases c with
    | late => exact absurd rfl hc
    | _ => decide
  refine h.updStream i (·.count c) ⟨?_, fun _ => id, rfl, fun _ => ⟨rfl, rfl⟩⟩
  exact Vector.getElem_set_ne (streamCounterIndex c).isLt (by decide : 4 < 12) hne

/-- A change of the entry of a ticket. -/
theorem updEntry (h : Onward s t) (u : Nat) (f : HeldRead → HeldRead)
    (hreq : ∀ x, (f x).request = x.request) (hun : ∀ x, (f x).phase = .unassigned → x.phase = .unassigned)
    (hmove : t.tickets.Nodup → ∀ x ∈ t.gate.held, x.ticket = u → PhaseMoves t.time.now x (f x)) :
    Onward s (t.updEntry u f) := by
  have hticket : ∀ x, (f x).ticket = x.ticket := fun x => (congrArg HeldRead.ticket (hreq x) :)
  have hstream : ∀ x, (f x).stream = x.stream := fun x => (congrArg HeldRead.stream (hreq x) :)
  refine h.trans ⟨rfl, updEntry_tickets t u f hticket, rfl, fun j => .refl _, ?_, fun hnd x hx => ?_⟩
  · rintro i v ⟨y, hy, hi, hphase, hv⟩
    obtain ⟨x, hx, rfl⟩ := List.mem_map.1 hy
    by_cases hu : x.ticket = u
    · simp only [if_pos hu] at hi hphase hv
      exact ⟨x, hx, (hstream x).symm.trans hi, hun x hphase, (hticket x).symm.trans hv⟩
    · simp only [if_neg hu] at hi hphase hv
      exact ⟨x, hx, hi, hphase, hv⟩
  · refine ⟨_, List.mem_map.2 ⟨x, hx, rfl⟩, ?_⟩
    by_cases hu : x.ticket = u
    · rw [if_pos hu]; exact ⟨hreq x, hmove hnd x hx hu⟩
    · rw [if_neg hu]; exact ⟨rfl, .inl rfl⟩

/-- A change of what the Path Arbiter keeps for an entry. -/
theorem updPermit (h : Onward s t) (u : Nat) (f : HeldRead → HeldRead) (hreq : ∀ x, (f x).request = x.request)
    (hphase : ∀ x, (f x).phase = x.phase) : Onward s (t.updEntry u f) :=
  h.updEntry u f hreq (fun x hx => (hphase x).symm.trans hx) fun _ x _ _ => .inl (hphase x)

theorem foldl {α : Type} {f : State → α → State} (hf : ∀ t x, Onward t (f t x)) (h : Onward s t) (l : List α) :
    Onward s (l.foldl f t) := by
  induction l generalizing t with
  | nil => exact h
  | cons x l ih => exact ih (h.trans (hf t x))

/-! #### Permit times -/

theorem deferEntry (h : Onward s t) (e : HeldRead) : Onward s (t.deferEntry e) := by
  unfold State.deferEntry
  dsimp only
  split
  · exact h.latch _ _
  · have hmark := h.updPermit e.ticket (fun x => { x with deferred := true }) (fun _ => rfl) fun _ => rfl
    exact (hmark.count e.stream (c := .deferred) (by decide)).latch _ _

theorem testPermit (h : Onward s t) (e : HeldRead) : Onward s (t.testPermit e) := by
  have hpermit := h.updPermit e.ticket
    (fun x => { x with permit := some ((t.stream e.stream).permitTime e.path t.time.now) })
    (fun _ => rfl) fun _ => rfl
  unfold State.testPermit
  dsimp only
  split
  · exact hpermit
  · exact hpermit.deferEntry e

theorem retestPermit (h : Onward s t) (e : HeldRead) : Onward s (t.retestPermit e) := by
  have hpermit := h.updPermit e.ticket
    (fun x => { x with permit := some ((t.stream e.stream).permitTime e.path t.time.now) })
    (fun _ => rfl) fun _ => rfl
  unfold State.retestPermit
  dsimp only
  split
  · exact hpermit.deferEntry e
  · exact hpermit

theorem retestStream (h : Onward s t) (i : StreamId) : Onward s (t.retestStream i) :=
  foldl (fun t e => (refl t).retestPermit e) h _

theorem chargeMeter (h : Onward s t) (i : StreamId) (p : Path) : Onward s (t.chargeMeter i p) :=
  foldl (fun t e => (refl t).testPermit e)
    (h.updStream i
      (fun st => { st with
        meters := st.meters.set p
          (some { level := st.levelAt p t.time.now + st.active.gapG, updated := t.time.now }) })
      ⟨rfl, fun _ => id, rfl, fun _ => ⟨rfl, rfl⟩⟩) _

/-- R73: the passage of an entry that is due. -/
theorem makeEligible (h : Onward s t) (u : Nat)
    (hdue : t.tickets.Nodup → ∀ x ∈ t.gate.held, x.ticket = u → x.release ≤ t.time.now) :
    Onward s (t.makeEligible u) := by
  unfold State.makeEligible
  split
  · exact h
  · next e he =>
    obtain ⟨hmem, hticket⟩ := entry_eq_some he
    split
    · next hwait =>
      refine (h.updEntry u (fun x => { x with phase := .eligible, deferred := false }) (fun _ => rfl)
        (fun _ hx => Phase.noConfusion hx) fun hnd x hx hu => ?_).testPermit _
      obtain rfl := eq_of_ticket hnd hx hmem (hu.trans hticket.symm)
      exact .inr ⟨.inl ⟨hwait, hdue hnd x hx hu⟩, .inl rfl⟩
    · exact h

/-- R73: entries that were due are due still as the table moves on. -/
theorem makeEligible_all (l : List HeldRead) (hl : ∀ e ∈ l, e ∈ s.gate.held ∧ e.release ≤ s.time.now)
    (h : Onward s t) : Onward s (l.foldl (fun t e => t.makeEligible e.ticket) t) := by
  induction l generalizing t with
  | nil => exact h
  | cons e l ih =>
    refine ih (fun x hx => hl x (List.mem_cons_of_mem e hx)) (h.makeEligible e.ticket fun hnd x hx hu => ?_)
    obtain ⟨hmem, hrel⟩ := hl e List.mem_cons_self
    obtain ⟨y, hy, hreq, _⟩ := h.held (h.tickets ▸ hnd) e hmem
    have hy' : y.ticket = e.ticket := (congrArg HeldRead.ticket hreq :)
    obtain rfl := eq_of_ticket hnd hx hy (hu.trans hy'.symm)
    rw [release_of_request hreq, h.time]
    exact hrel

theorem wake (h : Onward s t) (p : Path) : Onward s (t.wake p) := by
  refine h.trans (makeEligible_all _ (fun e he => ?_) (refl t))
  obtain ⟨hmem, hdue⟩ := List.mem_filter.1 he
  simp only [State.releaseDue, Bool.and_eq_true, decide_eq_true_eq] at hdue
  exact ⟨hmem, hdue.2.2⟩

/-! #### The grant -/

theorem refreshHeads (h : Onward s t) (i : StreamId) : Onward s (t.refreshHeads i) := by
  refine h.of_stream i rfl rfl (fun j hj => updStream_stream_ne t _ hj) ?_
  exact .of_body (refreshHeads_body t i) (refreshHeads_isSome t i) (refreshHeads_nextOf t i)

/-- R83: a consumption takes a stream to IDLE only where it is DRAINING. -/
theorem consume (h : Onward s t) (i : StreamId) : Onward s (t.consume i) := by
  by_cases hd : (t.stream i).state = .draining ∧ t.drainComplete i = true
  · refine h.of_stream i (congrArg Still.time (consume_still t i)) (consume_gate t i)
      (((OnlyStream.refl i t).updStream _).drainCheck).others ?_
    rw [consume_stream_of_drained hd.1 hd.2]
    exact ⟨rfl, fun n hn => by rw [idleOf, BitVec.getLsbD_or, hn, Bool.true_or], rfl, fun hne => absurd hd.1 hne⟩
  · rw [consume_of_not_drained hd]
    exact h.refreshHeads i

theorem echoPush (h : Onward s t) (p : Path) (e : EchoEntry) : Onward s (t.echoPush p e) := by
  refine h.of_streams (congrArg Still.time (echoPush_still t p e)) ?_ ?_ <;>
    simp only [State.echoPush, State.echoMakeRoom] <;> split <;> simp [State.echoLost]

theorem marginSample (h : Onward s t) (i : StreamId) (m : Nat) : Onward s (t.marginSample i m) := by
  have htrack := fun g : Margin =>
    h.updStream i (fun st => { st with margin := g }) ⟨rfl, fun _ => id, rfl, fun _ => ⟨rfl, rfl⟩⟩
  unfold State.marginSample
  dsimp only
  split
  · exact (htrack _).latch _ _
  · split
    · exact (htrack _).latch _ _
    · exact htrack _

theorem decideGrant (h : Onward s t) (e : HeldRead) (a : Assigned) : Onward s (t.decideGrant e a).2 := by
  have hpresent : Onward s (t.presentGrant e.stream e.path a.line a.seg).2.2 := by
    unfold State.presentGrant
    dsimp only
    split <;> exact h.of_streams rfl rfl rfl
  simp only [State.decideGrant]
  split
  · split <;> simp_all
  · exact h

theorem noteUnderrun (h : Onward s t) (i : StreamId) (o : ReadOutcome) : Onward s (t.noteUnderrun i o) := by
  unfold State.noteUnderrun
  split
  · exact h
  · exact (h.latch _ _).count _ (by decide)

theorem forwardGranted (h : Onward s t) (e : HeldRead) (o : ReadOutcome) : Onward s (t.forwardGranted e o) := by
  unfold State.forwardGranted
  split
  · unfold State.forwardRead
    split <;> exact h.of_streams rfl rfl rfl
  · exact h

theorem handOff (h : Onward s t) (e : HeldRead) (a : Assigned) (d : Decision) : Onward s (t.handOff e a d) := by
  have hpush := fun (f : PathState → PathState) (x : EchoEntry) =>
    ((h.updPath e.path f).chargeMeter e.stream e.path).echoPush e.path x
  simp only [State.handOff]
  split
  · split
    · split
      · exact (hpush _ _).marginSample _ _
      · exact hpush _ _
    · exact hpush _ _
  · exact h

theorem decideGrant_gate (t : State) (e : HeldRead) (a : Assigned) : (t.decideGrant e a).2.gate = t.gate := by
  have hpresent : (t.presentGrant e.stream e.path a.line a.seg).2.2.gate = t.gate := by
    unfold State.presentGrant
    dsimp only
    split <;> rfl
  simp only [State.decideGrant]
  split
  · split <;> simp_all
  · rfl

/-- R74: the grant of an ELIGIBLE entry. -/
theorem grant (h : Onward s t) {e : HeldRead} (he : e ∈ t.gate.held) (hel : e.phase = .eligible) :
    Onward s (t.grant e) := by
  unfold State.grant
  split
  · exact h
  · next a _ =>
    have hforward := ((refl t).decideGrant e a).updEntry e.ticket
      (fun x => { x with
        phase := .forwarded, outcome := some (t.decideGrant e a).1.outcome
        snapshot := (t.decideGrant e a).1.snapshot, permit := none, deferred := false
        answer := answerOf (t.stream e.stream) x (t.decideGrant e a).1.outcome })
      (fun _ => rfl) (fun _ hx => Phase.noConfusion hx) fun hnd x hx hu => by
        rw [decideGrant_tickets] at hnd
        rw [decideGrant_gate] at hx
        obtain rfl := eq_of_ticket hnd hx he hu
        exact .inr ⟨.inr hel, .inr rfl⟩
    have hcount := (hforward.updPath e.path fun x =>
      x.setWinner (t.stream e.stream).active.classOne e.stream).count e.stream
      (c := releasedCounter e.path) (by cases e.path <;> decide)
    exact h.trans ((((hcount.noteUnderrun _ _).forwardGranted e _).handOff e a _).consume e.stream)

theorem best_mem (t : State) (p : Path) (l : List HeldRead) {e : HeldRead} (h : t.best p l = some e) : e ∈ l := by
  induction l generalizing e with
  | nil => cases h
  | cons x xs ih =>
    simp only [State.best] at h
    split at h
    · cases h; exact List.mem_cons_self
    · next y hy =>
      split at h
      · cases h; exact List.mem_cons_of_mem x (ih hy)
      · cases h; exact List.mem_cons_self

/-- R100: the winner is an ELIGIBLE entry of the table. -/
theorem winner_mem {t : State} {p : Path} {e : HeldRead} (h : t.winner p = some e) :
    e ∈ t.gate.held ∧ e.phase = .eligible := by
  obtain ⟨hmem, hg⟩ := List.mem_filter.1 (best_mem t p _ h)
  simp only [State.grantable, Bool.and_eq_true, beq_iff_eq] at hg
  obtain ⟨⟨⟨_, hel⟩, _⟩, _⟩ := hg
  exact ⟨hmem, hel⟩

theorem arbitrateTimes (h : Onward s t) (p : Path) (n : Nat) : Onward s (t.arbitrateTimes p n) := by
  induction n generalizing t with
  | zero => exact h
  | succ n ih =>
    rw [State.arbitrateTimes]
    split
    · exact h
    · next e he => exact ih (h.grant (winner_mem he).1 (winner_mem he).2)

theorem arbitrate (h : Onward s t) (p : Path) : Onward s (t.arbitrate p) := (h.wake p).arbitrateTimes p _

theorem arbitrateBoth (h : Onward s t) : Onward s t.arbitrateBoth := by
  have hwake := (h.wake .A).wake .B
  have hdraw := hwake.of_streams (u := ((t.wake .A).wake .B).drawFree) rfl rfl rfl
  unfold State.arbitrateBoth
  dsimp only
  split
  · split
    · exact (hdraw.arbitrate .A).arbitrate .B
    · exact (hdraw.arbitrate .B).arbitrate .A
  · exact (hwake.arbitrate .A).arbitrate .B

end Onward

end Sys2Proof.Machine
end

-- The reads that take their position (R33, R37, R69, R71).
section
namespace Sys2Proof.Machine

open Sys2Proof

/-! ### The end of an assignment -/

theorem Onward.endFrame {s t : State} (h : Onward s t) (e : HeldRead) (n : Nat) : Onward s (t.endFrame e n) :=
  h.of_stream e.stream (congrArg Still.time (endFrame_still t e n)) (endFrame_gate t e n)
    ((OnlyStream.refl e.stream t).endFrame n).others
    (.of_body (endFrame_body t e n) (endFrame_isSome t e n) (endFrame_nextOf t e n))

theorem Onward.trimOffsets {s t : State} (h : Onward s t) (i : StreamId) :
    Onward s (t.updStream i Stream.trimOffsets) := by
  refine h.updStream i _ ?_
  rw [trimOffsets_eq]
  exact ⟨rfl, fun _ => id, rfl, fun _ => ⟨rfl, rfl⟩⟩

/-- R6: whether a path has been assigned a position in a frame not earlier than g. -/
theorem assignedFrame_reaches_iff (st : Stream) (p : Path) (g v : Nat) :
    (st.assignedFrame p).any (OffsetEntry.reaches ⟨some g, v⟩) = true ↔
      ∃ np f0, st.nextOf p = some np ∧ st.first = some f0 ∧
        (np.n ≠ 0 ∧ g ≤ np.frame.frame ∨ np.n = 0 ∧ f0.frame < np.frame.frame ∧ g < np.frame.frame) := by
  have hframe : st.assignedFrame p = (st.nextOf p).bind fun np => st.first.bind fun f0 =>
      if np.n ≠ 0 then some np.frame.frame
      else if f0.frame < np.frame.frame then some (np.frame.frame - 1) else none := by
    show (match st.nextOf p, st.first with | some np, some f0 => _ | _, _ => _) = _
    cases st.nextOf p <;> cases st.first <;> rfl
  rw [hframe]
  cases st.nextOf p with
  | none => simp
  | some np =>
    cases st.first with
    | none => simp
    | some f0 =>
      simp only [Option.bind_some, Option.some.injEq, exists_and_left, exists_eq_left']
      by_cases hn : np.n = 0
      · by_cases hf : f0.frame < np.frame.frame
        · simp only [hn, hf, OffsetEntry.reaches, ne_eq, not_true_eq_false, if_false, if_true, false_and,
            false_or, true_and, Option.any_some, decide_eq_true_eq]
          omega
        · simp [hn, hf]
      · simp [hn, OffsetEntry.reaches]

theorem trimOffsets_of_cons {st : Stream} {x e : OffsetEntry} {rest : List OffsetEntry}
    (h : st.offsets = x :: e :: rest) :
    st.trimOffsets =
      if (st.active.pathSet.paths.all fun p => (st.assignedFrame p).any e.reaches) = true
        then { st with offsets := e :: rest } else st := by
  unfold Stream.trimOffsets
  rw [h]
  show (if _ then _ else _) = _
  congr 3
  funext p
  cases st.assignedFrame p <;> rfl

/-- R6: the first entry of the offset schedule goes where every path has been assigned a position of a frame not
earlier than the second's first. -/
theorem trimOffsets_offsets {st : Stream} {x : OffsetEntry} {g v : Nat} {rest : List OffsetEntry}
    (h : st.offsets = x :: ⟨some g, v⟩ :: rest) :
    (AssignedFrom st st.nextOf g → st.trimOffsets.offsets = ⟨some g, v⟩ :: rest) ∧
      (¬AssignedFrom st st.nextOf g → st.trimOffsets.offsets = st.offsets) := by
  have hall : (st.active.pathSet.paths.all fun p =>
      (st.assignedFrame p).any (OffsetEntry.reaches ⟨some g, v⟩)) = true ↔ AssignedFrom st st.nextOf g := by
    rw [List.all_eq_true]
    exact forall_congr' fun p => imp_congr (mem_paths_iff_inSet _ p) (assignedFrame_reaches_iff st p g v)
  rw [trimOffsets_of_cons h]
  exact ⟨fun ha => by rw [if_pos (hall.2 ha)], fun ha => by rw [if_neg (mt hall.1 ha)]⟩

theorem trimOffsets_offsets_of_short {st : Stream} (h : st.offsets.length ≤ 1) :
    st.trimOffsets.offsets = st.offsets := by
  unfold Stream.trimOffsets
  split
  · next heq => rw [heq] at h; simp at h
  · rfl

/-! ### Placing a read -/

theorem OnlyStream.updEntry {i : StreamId} {s t : State} (h : OnlyStream i s t) (u : Nat)
    (f : HeldRead → HeldRead) : OnlyStream i s (t.updEntry u f) := h.withGate _

theorem OnlyStream.refreshHeads {i : StreamId} {s t : State} (h : OnlyStream i s t) :
    OnlyStream i s (t.refreshHeads i) := by
  unfold State.refreshHeads
  exact h.updStream _

theorem OnlyStream.noteLate {i : StreamId} {s t : State} (h : OnlyStream i s t) (r : Nat) :
    OnlyStream i s (t.noteLate i r) := by
  unfold State.noteLate
  split
  · exact (h.latch .late).count .late
  · exact h

theorem OnlyStream.noteSequence {i : StreamId} {s t : State} (h : OnlyStream i s t) (p : Path) (m : Bool) :
    OnlyStream i s (t.noteSequence i p m) := by
  unfold State.noteSequence
  split
  · exact h.updStream _
  · exact ((h.updStream _).latch .sequence).count .sequence

/-- R37: what a late read latches and counts. -/
def Stream.madeLate (st : Stream) : Stream :=
  { st with events := st.events ||| 16#16, counters := bump st.counters 4 }

/-- R71: what the sequence check leaves of a stream. -/
def Stream.checked (st : Stream) (p : Path) (matched : Bool) : Stream :=
  { st with
    mismatches := st.mismatches.set p (if matched then 0 else st.mismatches.get p + 1)
    events := if matched then st.events else st.events ||| 512#16
    counters := if matched then st.counters else bump st.counters 10 }

theorem noteLate_stream (s : State) (i : StreamId) (r : Nat) :
    (s.noteLate i r).stream i = if r < s.time.now then (s.stream i).madeLate else s.stream i := by
  unfold State.noteLate
  split
  · rw [count_stream, if_pos rfl, latch_stream, if_pos rfl]; rfl
  · rfl

theorem noteSequence_stream (s : State) (i : StreamId) (p : Path) (m : Bool) :
    (s.noteSequence i p m).stream i = (s.stream i).checked p m := by
  unfold State.noteSequence
  cases m
  · rw [if_neg (by decide), count_stream, if_pos rfl, latch_stream, if_pos rfl, updStream_stream]; rfl
  · rw [if_pos rfl, updStream_stream]; rfl

/-- R69, R71: a read given a position is checked and placed in WAITING. -/
def State.placed (s : State) (e : HeldRead) (a : Assigned) : State :=
  (((s.noteLate e.stream a.release).noteSequence e.stream e.path a.matched).updEntry e.ticket fun x =>
    { x with assigned := some a, phase := .waiting }).refreshHeads e.stream

/-- R73: a read placed in WAITING whose release time is not later than now passes on to ELIGIBLE. -/
def State.passOn (s : State) (e : HeldRead) (a : Assigned) : State :=
  if a.release ≤ s.time.now then (s.placed e a).makeEligible e.ticket else s.placed e a

section Placed

variable (s : State) (e : HeldRead) (a : Assigned)

theorem noteLate_gate (i : StreamId) (r : Nat) : (s.noteLate i r).gate = s.gate := by
  unfold State.noteLate; split <;> rfl
theorem noteSequence_gate (i : StreamId) (p : Path) (m : Bool) : (s.noteSequence i p m).gate = s.gate := by
  unfold State.noteSequence; split <;> rfl

@[simp] theorem placed_still : (s.placed e a).still = s.still := by simp [State.placed]

@[simp] theorem noteLate_beside (i : StreamId) (r : Nat) : (s.noteLate i r).beside = s.beside := by
  unfold State.noteLate; split <;> simp
@[simp] theorem noteSequence_beside (i : StreamId) (p : Path) (m : Bool) :
    (s.noteSequence i p m).beside = s.beside := by
  unfold State.noteSequence; split <;> simp
@[simp] theorem placed_beside : (s.placed e a).beside = s.beside := by simp [State.placed, State.updEntry]

theorem placed_gate : (s.placed e a).gate =
    (s.updEntry e.ticket fun x => { x with assigned := some a, phase := .waiting }).gate := by
  simp only [State.placed, State.refreshHeads, updStream_gate, State.updEntry, withGate_gate, noteSequence_gate,
    noteLate_gate]

theorem placed_only : OnlyStream e.stream s (s.placed e a) := by
  have h := ((((OnlyStream.refl e.stream s).noteLate a.release).noteSequence e.path a.matched).updEntry e.ticket
    fun x => { x with assigned := some a, phase := .waiting }).refreshHeads
  exact h

theorem placed_body : ((s.placed e a).stream e.stream).body =
    Stream.body ((if a.release < s.time.now then (s.stream e.stream).madeLate else s.stream e.stream).checked
      e.path a.matched) := by
  rw [State.placed, refreshHeads_body, State.updEntry, withGate_stream, noteSequence_stream, noteLate_stream]

theorem placed_nextOf (q : Path) : ((s.placed e a).stream e.stream).nextOf q = (s.stream e.stream).nextOf q := by
  rw [State.placed, refreshHeads_nextOf, State.updEntry, withGate_stream, noteSequence_stream, noteLate_stream]
  split <;> rfl

theorem placed_tickets : (s.placed e a).tickets = s.tickets := by
  simp [State.placed, updEntry_tickets]

/-- Each entry of the ticket holds the position given. -/
theorem placed_release {x : HeldRead} (hx : x ∈ (s.placed e a).gate.held) (ht : x.ticket = e.ticket) :
    x.release = a.release := by
  rw [placed_gate] at hx
  obtain ⟨y, _, rfl⟩ := List.mem_map.1 hx
  by_cases hy : y.ticket = e.ticket
  · rw [if_pos hy]; rfl
  · rw [if_neg hy] at ht; exact absurd ht hy

theorem onward_passOn : Onward (s.placed e a) (s.passOn e a) := by
  have htime : (s.placed e a).time = s.time := congrArg Still.time (placed_still s e a)
  unfold State.passOn
  split
  · next hdue =>
    exact (Onward.refl _).makeEligible e.ticket fun _ x hx ht => by
      rw [placed_release s e a hx ht, htime]; exact hdue
  · exact .refl _

/-- R72: the halt follows the placing. -/
theorem placeRead_eq : s.placeRead e a = (s.passOn e a).haltCheck e.stream e.path := by
  unfold State.passOn
  rw [← show (s.placed e a).time = s.time from congrArg Still.time (placed_still s e a)]
  rfl

/-- R72: where the mismatch count stays below 8, nothing follows the placing. -/
theorem placeRead_of_few (h : a.matched = true ∨ (s.stream e.stream).mismatches.get e.path < 7) :
    s.placeRead e a = s.passOn e a := by
  have hcount : ((s.passOn e a).stream e.stream).mismatches.get e.path < 8 := by
    rw [((onward_passOn s e a).streams e.stream).mismatches, field_of_body Stream.mismatches (placed_body s e a)]
    have hold : (if a.release < s.time.now then (s.stream e.stream).madeLate else s.stream e.stream).mismatches =
        (s.stream e.stream).mismatches := by split <;> rfl
    simp only [Stream.checked, PathPair.get_set, hold]
    rcases h with h | h
    · rw [if_pos h]; omega
    · split <;> omega
  rw [placeRead_eq, State.haltCheck, if_neg (by omega)]

theorem entry_last {s : State} {l : List HeldRead} {x : HeldRead} (h : s.gate.held = l ++ [x])
    (fresh : ∀ y ∈ l, y.ticket ≠ x.ticket) : s.entry x.ticket = some x := by
  have hnone : l.find? (fun y => y.ticket == x.ticket) = none :=
    List.find?_eq_none.2 fun y hy => by simpa using fresh y hy
  simp [State.entry, h, List.find?_append, hnone]

/-- The youngest entry once it has been placed. -/
theorem placed_gate_last {l : List HeldRead} (h : s.gate.held = l ++ [e])
    (fresh : ∀ x ∈ l, x.ticket ≠ e.ticket) :
    (s.placed e a).gate = { s.gate with held := l ++ [{ e with assigned := some a, phase := .waiting }] } :=
  (placed_gate s e a).trans (updEntry_gate_last h fresh _)

/-- R73: the youngest entry once its read has passed on: WAITING where its release time lies ahead. -/
theorem passOn_last {l : List HeldRead} (h : s.gate.held = l ++ [e]) (fresh : ∀ x ∈ l, x.ticket ≠ e.ticket)
    (hnd : s.tickets.Nodup) :
    ∃ y ∈ (s.passOn e a).gate.held, y.request = HeldRead.request { e with assigned := some a } ∧
      (s.time.now < a.release → y.phase = .waiting) ∧
      (a.release ≤ s.time.now → y.phase = .eligible ∨ y.phase = .forwarded) := by
  have hgate := congrArg Gate.held (placed_gate_last s e a h fresh)
  let x : HeldRead := { e with assigned := some a, phase := .waiting }
  unfold State.passOn
  split
  · next hdue =>
    let f : HeldRead → HeldRead := fun x => { x with phase := .eligible, deferred := false }
    have hpass : (s.placed e a).makeEligible e.ticket = ((s.placed e a).updEntry x.ticket f).testPermit (f x) := by
      rw [State.makeEligible, show (s.placed e a).entry e.ticket = some x from entry_last (x := x) hgate fresh]
      rfl
    have hheld : ((s.placed e a).updEntry x.ticket f).gate.held = l ++ [f x] :=
      congrArg Gate.held (updEntry_gate_last (e := x) hgate fresh f)
    have htickets : ((s.placed e a).updEntry x.ticket f).tickets = s.tickets :=
      (updEntry_tickets _ _ f fun _ => rfl).trans (placed_tickets s e a)
    obtain ⟨y, hy, hreq, hmove⟩ := ((Onward.refl _).testPermit (f x)).held (htickets ▸ hnd) (f x)
      (hheld ▸ List.mem_append_right l (List.mem_singleton_self (f x)))
    rw [hpass]
    refine ⟨y, hy, hreq, fun h => absurd hdue (Nat.not_le.2 h), fun _ => ?_⟩
    rcases hmove with hphase | ⟨_, hphase⟩
    · exact .inl hphase
    · exact hphase
  · next hahead =>
    exact ⟨x, hgate ▸ List.mem_append_right l (List.mem_singleton_self x), rfl, fun _ => rfl, fun h => absurd h hahead⟩

end Placed

/-- R38: the assignment of a read whose position is taken. -/
def State.takePlace (s : State) (e : HeldRead) (a : Assigned) (n : Nat) : State :=
  ((s.passOn e a).endFrame e n).updStream e.stream Stream.trimOffsets

theorem onward_takePlace (s : State) (e : HeldRead) (a : Assigned) (n : Nat) :
    Onward (s.passOn e a) (s.takePlace e a n) := ((Onward.refl _).endFrame e n).trimOffsets e.stream

/-- R38: the judgement of a read whose position is not given up. -/
theorem judge_of_taken {s : State} {e : HeldRead} {a : Assigned} {drop : Option Nat} (hdrop : drop ≠ some a.frame)
    (hline : (s.stream e.stream).qHead.getD 0 ≤ a.line)
    (hlate : s.time.now ≤ a.release + (s.stream e.stream).active.lateLimit) :
    s.judge e a drop = s.placeRead e a := by
  simp only [State.judge]
  rw [if_neg hdrop, if_neg (Nat.not_lt.2 hline), if_neg (Nat.not_lt.2 hlate)]

/-- R38: a read whose position is not given up, and that neither takes a record nor halts its stream, is placed. -/
theorem assign_of_taken {s : State} {e : HeldRead} {a : Accumulator} {np : NextPos}
    (ha : (s.stream e.stream).acc.get e.path = some a) (hn : a.next = some np)
    (hb : ¬((s.stream e.stream).state = .draining ∧ ∃ f, (s.stream e.stream).fStop = some f ∧ f < np.frame.frame))
    (hr : ∀ r, (s.stream e.stream).pendingApply = some r → r.frame ≠ some np.frame.frame)
    (hfew : (s.assignedOf e np).matched = true ∨ (s.stream e.stream).mismatches.get e.path < 7)
    (hdrop : a.drop ≠ some np.frame.frame) (hline : (s.stream e.stream).qHead.getD 0 ≤ (s.assignedOf e np).line)
    (hlate : s.time.now ≤ (s.assignedOf e np).release + (s.stream e.stream).active.lateLimit) :
    s.assign e = (s.advance e.stream e.path np).takePlace e (s.assignedOf e np) np.n := by
  have hstream : (s.advance e.stream e.path np).stream e.stream =
      { s.stream e.stream with acc := ((s.advance e.stream e.path np).stream e.stream).acc } := by
    simp [State.advance]
  have hjudge : (s.advance e.stream e.path np).judge e (s.assignedOf e np) a.drop =
      (s.advance e.stream e.path np).placeRead e (s.assignedOf e np) :=
    judge_of_taken hdrop (by rw [hstream]; exact hline) (by rw [hstream]; exact hlate)
  rw [assign_unmarked ha hn hb hr, hjudge, placeRead_of_few _ _ _ (by rw [hstream]; exact hfew)]
  rfl

end Sys2Proof.Machine
end

section
namespace Sys2Proof.Machine

open Sys2Proof

/-! ### A gated read that takes its position -/

theorem checked_late (st : Stream) (p : Path) (m : Bool) : (st.checked p m).counters[4] = st.counters[4] := by
  cases m
  · exact Vector.getElem_set_ne (by decide : 10 < 12) (by decide : 4 < 12) (by decide)
  · rfl

/-- R71: the same by a test. -/
theorem checked_decide (st : Stream) (p : Path) (m : Prop) [Decidable m] : st.checked p (decide m) =
    { st with
      mismatches := st.mismatches.set p (if m then 0 else st.mismatches.get p + 1)
      events := if m then st.events else st.events ||| 512#16
      counters := if m then st.counters else bump st.counters 10 } := by
  by_cases h : m <;> simp [Stream.checked, h]

theorem madeLate_late (st : Stream) : st.madeLate.counters[4] = min 4294967295 (st.counters[4] + 1) :=
  Vector.getElem_set_self _

/-- R37: the late count of a stream once a read has been placed. -/
theorem placed_late (s : State) (e : HeldRead) (a : Assigned) :
    ((s.placed e a).stream e.stream).counters[4] =
      if a.release < s.time.now then min 4294967295 ((s.stream e.stream).counters[4] + 1)
      else (s.stream e.stream).counters[4] := by
  refine (field_of_body (fun y => y.counters[4]) (placed_body s e a)).trans ?_
  simp only [checked_late]
  split
  · exact madeLate_late _
  · rfl

/-- R37: a late read latches LATE. -/
theorem placed_late_flag {s : State} {e : HeldRead} {a : Assigned} (h : a.release < s.time.now) :
    ((s.placed e a).stream e.stream).events.getLsbD 4 = true := by
  rw [field_of_body Stream.events (placed_body s e a), if_pos h]
  have hlate : (s.stream e.stream).madeLate.events.getLsbD 4 = true := by
    simp [Stream.madeLate]
  simp only [Stream.checked]
  split
  · exact hlate
  · rw [BitVec.getLsbD_or, hlate, Bool.true_or]

/-- R38: a stream once a read whose release time lies ahead has taken its position. -/
theorem takePlace_stream_of_ahead {s : State} {e : HeldRead} {a : Assigned} {st : Stream} (n : Nat)
    (h : s.time.now < a.release) (hbody : (s.stream e.stream).body = st.body) :
    ∃ x : Stream, (s.takePlace e a n).stream e.stream = x.trimOffsets ∧
      x.body = (st.checked e.path a.matched).body ∧ x.nextOf = (s.stream e.stream).nextOf := by
  have hplaced : s.passOn e a = s.placed e a := if_neg (Nat.not_le.2 h)
  refine ⟨((s.placed e a).endFrame e n).stream e.stream, ?_, ?_, ?_⟩
  · rw [State.takePlace, hplaced, updStream_stream]
  · rw [endFrame_body, placed_body, if_neg (Nat.not_lt.2 (Nat.le_of_lt h))]
    exact congrArg (Stream.checked · e.path a.matched) hbody
  · funext q
    rw [endFrame_nextOf, placed_nextOf]

/-- R160: of the Status Writer, such a read queues its stream's record where the sequence check fails. -/
theorem mem_updates_takePlace_iff {s : State} {e : HeldRead} {a : Assigned} (n : Nat) (h : s.time.now < a.release)
    (r : RecordId) : r ∈ (s.takePlace e a n).status.updates ↔
      r ∈ s.status.updates ∨ r ∈ if a.matched then [] else [RecordId.stream e.stream] := by
  have hstatus : (s.takePlace e a n).status = (s.noteSequence e.stream e.path a.matched).status := by
    rw [State.takePlace, show s.passOn e a = s.placed e a from if_neg (Nat.not_le.2 h), State.placed,
      State.noteLate, if_neg (Nat.not_lt.2 (Nat.le_of_lt h)), updStream_status]
    unfold State.endFrame
    split <;> rfl
  rw [hstatus]
  unfold State.noteSequence
  split
  · simp
  · rw [count_status, mem_latch, List.mem_singleton, updStream_status]

theorem takePlace_beside_of_ahead {s : State} {e : HeldRead} {a : Assigned} (n : Nat) (h : s.time.now < a.release) :
    (s.takePlace e a n).beside = s.beside := by
  rw [State.takePlace, show s.passOn e a = s.placed e a from if_neg (Nat.not_le.2 h)]
  simp

theorem takePlace_still (s : State) (e : HeldRead) (a : Assigned) (n : Nat) :
    (s.takePlace e a n).still = s.still := by
  unfold State.takePlace State.passOn
  split <;> simp

theorem takePlace_gate_of_ahead {s : State} {e : HeldRead} {a : Assigned} {l : List HeldRead} (n : Nat)
    (h : s.time.now < a.release) (hl : s.gate.held = l ++ [e]) (fresh : ∀ x ∈ l, x.ticket ≠ e.ticket) :
    (s.takePlace e a n).gate = { s.gate with held := l ++ [{ e with assigned := some a, phase := .waiting }] } := by
  rw [State.takePlace, show s.passOn e a = s.placed e a from if_neg (Nat.not_le.2 h), updStream_gate,
    endFrame_gate, placed_gate_last s e a hl fresh]

theorem takePlace_only_of_ahead {s : State} {e : HeldRead} {a : Assigned} (n : Nat) (h : s.time.now < a.release) :
    OnlyStream e.stream s (s.takePlace e a n) := by
  rw [State.takePlace, show s.passOn e a = s.placed e a from if_neg (Nat.not_le.2 h)]
  exact ((placed_only s e a).endFrame n).updStream _

/-- R38, R100: the end of the event in which a read has been placed moves the table and the streams on. -/
theorem onward_taken (s : State) (e : HeldRead) (a : Assigned) (n : Nat) :
    Onward (s.placed e a) (s.takePlace e a n).arbitrateBoth :=
  ((onward_passOn s e a).trans (onward_takePlace s e a n)).arbitrateBoth

/-- R69, R73: the youngest entry at the end of the event in which its read has been placed. -/
theorem taken_last {s : State} {e : HeldRead} {l : List HeldRead} (a : Assigned) (n : Nat)
    (h : s.gate.held = l ++ [e]) (fresh : ∀ x ∈ l, x.ticket ≠ e.ticket) (hnd : s.tickets.Nodup) :
    ∃ y ∈ (s.takePlace e a n).arbitrateBoth.gate.held,
      y.request = HeldRead.request { e with assigned := some a } ∧
        (s.time.now < a.release → y.phase = .waiting) ∧
        (a.release ≤ s.time.now → y.phase = .eligible ∨ y.phase = .forwarded) := by
  obtain ⟨x, hx, hreq, hwait, hgo⟩ := passOn_last s e a h fresh hnd
  have honward := onward_passOn s e a
  have htime : (s.passOn e a).time = s.time :=
    honward.time.trans (congrArg Still.time (placed_still s e a))
  have htickets : (s.passOn e a).tickets = s.tickets := honward.tickets.trans (placed_tickets s e a)
  obtain ⟨y, hy, hreq', hmove⟩ := (onward_takePlace s e a n).arbitrateBoth.held (htickets ▸ hnd) x hx
  refine ⟨y, hy, hreq'.trans hreq, fun hahead => ?_, fun hdue => ?_⟩
  · rcases hmove with hsame | ⟨hleave, _⟩
    · exact hsame.trans (hwait hahead)
    · rw [htime, show x.release = a.release from (congrArg HeldRead.release hreq :), hwait hahead] at hleave
      rcases hleave with ⟨_, hdue⟩ | hel
      · omega
      · cases hel
  · rcases hmove with hsame | ⟨_, hphase⟩
    · exact hsame ▸ hgo hdue
    · exact hphase

/-- R29, R30, R35, R71: what an arriving read is given with a position. -/
theorem assignedOf_newEntry (s : State) (tag : Tag) (addr : Addr) (len : Nat) (i : StreamId) (p : Path) (j k : Nat)
    (np : NextPos) :
    (s.addRead (newEntry s tag addr len i p j k)).assignedOf (newEntry s tag addr len i p j k) np =
      { frame := np.frame.frame, n := np.n, line := (s.stream i).lineAt np.frame.frame np.n
        seg := np.n % (s.stream i).active.segsPerLine
        launch := np.frame.start + offsetFor (s.stream i).offsets np.frame.frame + np.spacing +
          (if p = .B then (s.stream i).active.skewB else 0)
        release := np.frame.start + offsetFor (s.stream i).offsets np.frame.frame + np.spacing +
          (if p = .B then (s.stream i).active.skewB else 0) - (s.paths.get p).lead
        matched := decide (j = (s.stream i).lineAt np.frame.frame np.n % (s.stream i).ring ∧
          k = np.n % (s.stream i).active.segsPerLine) } := by
  have hmatched : sequenceMatch (newEntry s tag addr len i p j k) ((s.stream i).lineAt np.frame.frame np.n)
      (np.n % (s.stream i).active.segsPerLine) (s.stream i).ring =
        decide (j = (s.stream i).lineAt np.frame.frame np.n % (s.stream i).ring ∧
          k = np.n % (s.stream i).active.segsPerLine) := by
    rw [Bool.decide_and]; rfl
  rw [← hmatched]
  cases p <;> rfl

theorem addRead_tickets (s : State) (e : HeldRead) : (s.addRead e).tickets = s.tickets ++ [e.ticket] := by
  simp [State.tickets, State.addRead]

/-- R65: the tickets stay apart as a read arrives. -/
theorem nodup_addRead {s : State} {e : HeldRead} (h : HeldTableRight s) (he : e.ticket = s.gate.nextTicket) :
    (s.addRead e).tickets.Nodup := by
  rw [addRead_tickets]
  refine List.nodup_append.2 ⟨h.2.1, List.nodup_singleton _, ?_⟩
  rintro u hu v hv rfl
  obtain ⟨x, hx, rfl⟩ := List.mem_map.1 hu
  exact ticket_fresh h x hx ((List.mem_singleton.1 hv).trans he)

/-- R6: the offset schedule after an assignment, by the next positions it leaves. -/
theorem trimOffsets_of_course {st x : Stream} {next : Path → Option NextPos} {y : OffsetEntry} {g v : Nat}
    {rest : List OffsetEntry} (hset : x.active = st.active) (hfirst : x.first = st.first)
    (hoffsets : x.offsets = st.offsets) (hnext : x.nextOf = next) (h : st.offsets = y :: ⟨some g, v⟩ :: rest) :
    (AssignedFrom st next g → x.trimOffsets.offsets = ⟨some g, v⟩ :: rest) ∧
      (¬AssignedFrom st next g → x.trimOffsets.offsets = st.offsets) := by
  have hfrom : AssignedFrom x x.nextOf g ↔ AssignedFrom st next g := by
    unfold AssignedFrom
    rw [hset, hfirst, hnext]
  rw [← hfrom, ← hoffsets]
  exact trimOffsets_offsets (hoffsets.trans h)

/-- Settles O30: the read is placed at its position, and what grants follow keep it and its stream's course. -/
theorem gatedReadTakesPosition : Obligations.GatedReadTakesPosition := by
  intro tag addr len s i p j k a np hr hl hp hg htable hstate ha hn hunmarked
    st line launch release matched after hfew hdrop hline hlate
  let e0 := newEntry s tag addr len i p j k
  let b : Assigned := { frame := np.frame.frame, n := np.n, line := line, seg := np.n % st.active.segsPerLine
                        launch := launch, release := release, matched := decide matched }
  let Y := (s.addRead e0).advance i p np
  have hb : (s.addRead e0).assignedOf e0 np = b := assignedOf_newEntry s tag addr len i p j k np
  have harrive : s.arrive i p tag addr len j k = Y.takePlace e0 b np.n := by
    refine (arrive_assigns s tag addr len i p j k (assigns_of hstate)).trans
      ((assign_of_taken (s := s.addRead e0) (e := e0) ha hn (not_beyond hstate) hunmarked ?_ hdrop ?_ ?_).trans ?_)
    all_goals rw [hb]
    · exact hfew.imp_left fun h => decide_eq_true h
    · exact hline
    · exact hlate
    · rfl
  have fresh : ∀ x ∈ s.gate.held, x.ticket ≠ e0.ticket := ticket_fresh htable
  have hnd : Y.tickets.Nodup := nodup_addRead htable rfl
  have hYbody : (Y.stream i).body = st.body := advance_body (s.addRead e0) i p np
  have hYnext : (Y.stream i).nextOf = after :=
    funext fun q => advance_nextOf (s.addRead e0) i p q np (nextOf_of_acc ha hn)
  have hYtickets : Y.tickets = s.tickets ++ [s.gate.nextTicket] := addRead_tickets s e0
  have hYonly : OnlyStream i s Y := ((OnlyStream.refl i s).withGate _).updStream _
  have hYstill : Y.still = s.still := rfl
  have hYbeside : Y.beside = s.beside := rfl
  obtain ⟨v, hv⟩ : ∃ v, (Y.takePlace e0 b np.n).arbitrateBoth = v := ⟨_, rfl⟩
  have hlast := taken_last b np.n (s := Y) (l := s.gate.held) rfl fresh hnd
  have honward := onward_taken Y e0 b np.n
  have hexec : exec (.sendRequest tag addr (.read len)) s = .next (settle s v) := by
    rw [exec_gated hr hl hp hg, harrive, hv]
  rw [hv] at hlast honward
  obtain ⟨e, he, hreq, hwait, hgo⟩ := hlast
  refine ⟨settle s v, e, hexec, he, ?_, ?_, (congrArg HeldRead.ticket hreq :),
    (congrArg HeldRead.stream hreq :), (congrArg HeldRead.path hreq :), (congrArg HeldRead.tag hreq :),
    (congrArg HeldRead.addr hreq :), (congrArg HeldRead.len hreq :), (congrArg HeldRead.assigned hreq :),
    hwait, hgo, ?_, ?_, fun h hq => ?_⟩
  · exact honward.tickets.trans ((placed_tickets Y e0 b).trans hYtickets)
  · exact honward.nextTicket.trans (congrArg Gate.nextTicket (placed_gate Y e0 b))
  · refine (honward.streams i).late.trans ((placed_late Y e0 b).trans ?_)
    rw [show (Y.stream e0.stream).counters[4] = st.counters[4] from
      field_of_body (fun y => y.counters[4]) hYbody]
    rfl
  · exact fun h => (honward.streams i).events 4 (placed_late_flag (s := Y) (e := e0) h)
  · have hheld := congrArg Gate.held (takePlace_gate_of_ahead np.n (s := Y) (e := e0) (a := b) h rfl fresh)
    have honly := hYonly.trans (takePlace_only_of_ahead np.n (s := Y) (e := e0) (a := b) h)
    have hstill := (takePlace_still Y e0 b np.n).trans hYstill
    have hbeside := (takePlace_beside_of_ahead np.n (s := Y) (e := e0) (a := b) h).trans hYbeside
    have hupdates := mem_updates_takePlace_iff np.n (s := Y) (e := e0) (a := b) h
    obtain ⟨x, hx, hxbody, hxnext⟩ := takePlace_stream_of_ahead np.n (s := Y) (e := e0) (a := b) h hYbody
    have hquiet : NothingToGrant (Y.takePlace e0 b np.n) :=
      nothingToGrant_append hq hstill hbeside hheld (by simp) fun _ => ⟨b, rfl, h⟩
    rw [arbitrateBoth_of_nothingToGrant hquiet] at hv
    rw [hv] at hheld honly hstill hbeside hupdates hx
    have hxfields {α : Type} (f : Stream → α) (hf : ∀ y : Stream, f y.body = f y) :
        f x = f (st.checked p (decide matched)) := field_of_body f hxbody hf
    have hoffsets : x.offsets = st.offsets := hxfields Stream.offsets fun _ => rfl
    have hlaste : e = { e0 with assigned := some b, phase := .waiting } := by
      rcases List.mem_append.1 (hheld ▸ he) with hold | hnew
      · exact absurd (congrArg HeldRead.ticket hreq :) (fresh e hold)
      · exact List.mem_singleton.1 hnew
    rw [settle_stream, show v.stream i = x.trimOffsets from hx]
    refine ⟨eq_of_still ((settle_still v s).trans hstill) ((settle_beside v s).trans hbeside) rfl,
      hlaste ▸ hheld, fun m hm => (settle_stream s v m).trans (honly.others m hm), ?_, ?_, fun y g c rest hy => ?_,
      fun hshort => ?_, statusBecomes_settle honly.status fun r => ?_⟩
    · exact trimOffsets_of_body (hxbody.trans (congrArg Stream.body (checked_decide st p matched)))
    · rw [trimOffsets_nextOf, hxnext]
      exact (congrFun hYnext p).trans (if_pos rfl)
    · exact trimOffsets_of_course (hxfields Stream.active fun _ => rfl) (hxfields Stream.first fun _ => rfl)
        hoffsets (hxnext.trans hYnext) hy
    · rw [trimOffsets_offsets_of_short (hoffsets ▸ hshort), hoffsets]
    · rw [hupdates r]
      simp only [b, decide_eq_true_eq]
      rfl

end Sys2Proof.Machine
end

-- The completion of ALIGN and the reads held through it (R25, R26, R72).
section
namespace Sys2Proof.Machine

open Sys2Proof

/-! ### The first frame (R25, R26) -/

theorem ceilDiv_le_iff (a b g : Nat) (hb : 0 < b) : ceilDiv a b ≤ g ↔ a ≤ g * b := by
  have h : (a + (b - 1)) / b ≤ g ↔ a + (b - 1) < (g + 1) * b := by
    rw [← Nat.lt_succ_iff, Nat.div_lt_iff_lt_mul hb]
  rw [ceilDiv, h, Nat.succ_mul]
  omega

/-- R25: the first frame is the smallest that does not start before t_arm plus the arming lead. -/
theorem le_alignFrame_iff (p : Params) (tArm g : Nat) (hn : 0 < p.num) (hd : 0 < p.den) :
    tArm + p.armingLead ≤ g * p.num / p.den ↔ (alignFrame p tArm).frame ≤ g := by
  rw [Nat.le_div_iff_mul_le hd]
  exact (ceilDiv_le_iff _ _ _ hn).symm

/-- R26: the first frame as ALIGN fixes it. -/
theorem firstFrameAt_eq {st : Stream} {now offset : Nat} (ho : st.offsets = [⟨none, offset⟩])
    (hd : 0 < st.active.den) :
    let f := (alignFrame st.active st.tArm).frame
    st.firstFrameAt now =
      frameAt st.active (if f * st.active.num / st.active.den + offset < now then f + 1 else f) := by
  intro f
  have hframe : alignFrame st.active st.tArm = frameAt st.active f := rfl
  have hoffset : offsetFor st.offsets f = offset := by rw [ho]; rfl
  unfold Stream.firstFrameAt
  rw [hframe]
  show (if f * st.active.num / st.active.den + offsetFor st.offsets f < now then _ else _) = _
  rw [hoffset]
  split
  · exact frameStep_frameAt st.active f hd
  · rfl

/-! ### The assignment of a read held through ALIGNING -/

/-- What the judgement of a read keeps of its stream, unless it is DRAINING: its course and, but for a halt, its state;
a halt leaves no read UNASSIGNED, and nothing makes a read so. -/
structure Judged (i : StreamId) (s t : State) : Prop where
  awaits : ∀ u, t.Awaits i u → s.Awaits i u
  course : (s.stream i).state ≠ .draining → (t.stream i).course = (s.stream i).course
  state : (s.stream i).state ≠ .draining →
    (t.stream i).state = (s.stream i).state ∨ (t.stream i).state = .halted ∧ ∀ u, ¬t.Awaits i u

theorem Onward.judged {s t : State} (h : Onward s t) (i : StreamId) : Judged i s t where
  awaits := h.awaits i
  course hd := ((h.streams i).run hd).2
  state hd := .inl ((h.streams i).run hd).1

namespace Judged

variable {i : StreamId} {s t u : State}

theorem on_air (h : Judged i s t) (hd : (s.stream i).state ≠ .draining) : (t.stream i).state ≠ .draining := by
  rcases h.state hd with h | ⟨h, _⟩
  · rwa [h]
  · rw [h]; decide

theorem trans (h : Judged i s t) (h' : Judged i t u) : Judged i s u where
  awaits v hv := h.awaits v (h'.awaits v hv)
  course hd := (h'.course (h.on_air hd)).trans (h.course hd)
  state hd := by
    rcases h'.state (h.on_air hd) with hsame | hhalt
    · rcases h.state hd with hsame' | ⟨hhalt, hnone⟩
      · exact .inl (hsame.trans hsame')
      · exact .inr ⟨hsame.trans hhalt, fun v hv => hnone v (h'.awaits v hv)⟩
    · exact .inr hhalt

/-- An operation that leaves the table, the stream's state and its course. -/
theorem of_gate (hg : t.gate = s.gate) (hs : (t.stream i).state = (s.stream i).state)
    (hc : (t.stream i).course = (s.stream i).course) : Judged i s t where
  awaits v := by rw [State.Awaits, hg]; exact id
  course _ := hc
  state _ := .inl hs

/-- A change of the entry of a ticket that leaves it in another phase than UNASSIGNED. -/
theorem updEntry (s : State) (v : Nat) (f : HeldRead → HeldRead) (hphase : ∀ x, (f x).phase ≠ .unassigned) :
    Judged i s (s.updEntry v f) ∧ ¬(s.updEntry v f).Awaits i v := by
  have hawaits : ∀ w, (s.updEntry v f).Awaits i w → s.Awaits i w ∧ w ≠ v := by
    rintro w ⟨y, hy, hi, hp, hw⟩
    obtain ⟨x, hx, rfl⟩ := List.mem_map.1 hy
    by_cases hv : x.ticket = v
    · rw [if_pos hv] at hp
      exact absurd hp (hphase x)
    · rw [if_neg hv] at hi hp hw
      exact ⟨⟨x, hx, hi, hp, hw⟩, fun h => hv (hw.trans h)⟩
  exact ⟨⟨fun w hw => (hawaits w hw).1, fun _ => rfl, fun _ => .inl rfl⟩, fun hv => (hawaits v hv).2 rfl⟩

end Judged

/-- R84: the entry into HALTED leaves no read of the stream UNASSIGNED. -/
theorem judged_enterHalted (s : State) (i : StreamId) : Judged i s (s.enterHalted i) := by
  have hstream : (s.enterHalted i).stream i =
      { s.stream i with fStop := none, state := .halted, events := (s.stream i).events ||| 4#16 } := by
    simp only [State.enterHalted, latch_stream, setStreamState_stream, updStream_stream, if_true]
    rfl
  have hnone : ∀ u, ¬(s.enterHalted i).Awaits i u := by
    rintro u ⟨y, hy, hi, hp, _⟩
    obtain ⟨x, _, rfl⟩ := List.mem_map.1 hy
    by_cases hx : (x.stream = i && x.unanswered) = true
    · rw [if_pos hx] at hp; cases hp
    · rw [if_neg hx] at hi hp
      simp [hi, hp, HeldRead.unanswered] at hx
  refine ⟨fun u hu => absurd hu (hnone u), fun _ => ?_, fun _ => .inr ⟨?_, hnone⟩⟩
  · rw [hstream]; rfl
  · rw [hstream]

theorem judged_haltCheck (s : State) (i : StreamId) (p : Path) : Judged i s (s.haltCheck i p) := by
  unfold State.haltCheck
  split
  · exact judged_enterHalted s i
  · exact (Onward.refl s).judged i

/-- R35: a dropped read is answered. -/
theorem judged_dropRead (s : State) (e : HeldRead) :
    Judged e.stream s (s.dropRead e) ∧ ¬(s.dropRead e).Awaits e.stream e.ticket := by
  obtain ⟨hjudged, hanswered⟩ := Judged.updEntry (i := e.stream) s e.ticket HeldRead.failed
    fun _ h => Phase.noConfusion h
  have honward : Onward (s.answerError e.ticket) (s.dropRead e) :=
    (((Onward.refl _).latch e.stream .drop).count e.stream (c := .dropped) (by decide)).consume e.stream
  exact ⟨hjudged.trans (honward.judged _), fun h => hanswered (honward.awaits _ _ h)⟩

/-- R69: a placed read is no longer UNASSIGNED. -/
theorem judged_placed (s : State) (e : HeldRead) (a : Assigned) :
    Judged e.stream s (s.placed e a) ∧ ¬(s.placed e a).Awaits e.stream e.ticket := by
  let t := (s.noteLate e.stream a.release).noteSequence e.stream e.path a.matched
  have hstream : t.stream e.stream = (if a.release < s.time.now then (s.stream e.stream).madeLate
      else s.stream e.stream).checked e.path a.matched := by
    rw [noteSequence_stream, noteLate_stream]
  have hnoted : Judged e.stream s t := by
    refine .of_gate ((noteSequence_gate _ _ _ _).trans (noteLate_gate s _ _)) ?_ ?_ <;> rw [hstream] <;> split <;>
      rfl
  obtain ⟨hplaced, hgone⟩ := Judged.updEntry (i := e.stream) t e.ticket
    (fun x => { x with assigned := some a, phase := .waiting }) fun _ h => Phase.noConfusion h
  have honward := (Onward.refl _).refreshHeads (t := t.updEntry e.ticket
    fun x => { x with assigned := some a, phase := .waiting }) e.stream
  exact ⟨(hnoted.trans hplaced).trans (honward.judged _), fun h => hgone (honward.awaits _ _ h)⟩

theorem judged_placeRead (s : State) (e : HeldRead) (a : Assigned) :
    Judged e.stream s (s.placeRead e a) ∧ ¬(s.placeRead e a).Awaits e.stream e.ticket := by
  obtain ⟨hplaced, hgone⟩ := judged_placed s e a
  have hpassed := (onward_passOn s e a).judged e.stream
  have hhalted := judged_haltCheck (s.passOn e a) e.stream e.path
  rw [placeRead_eq]
  exact ⟨(hplaced.trans hpassed).trans hhalted, fun h => hgone (hpassed.awaits _ (hhalted.awaits _ h))⟩

/-- R36: drop mode changes nothing of a stream's course. -/
theorem Onward.setDrop {s t : State} (h : Onward s t) (i : StreamId) (p : Path) (d : Option Nat) :
    Onward s (t.setDrop i p d) :=
  h.of_stream i rfl rfl (fun _ => updStream_stream_ne t _)
    (.of_body (setDrop_body t i p d) (fun q => setDrop_isSome t i p q d) fun q => setDrop_nextOf t i p q d)

/-- R38: whatever its judgement, the read is no longer UNASSIGNED. -/
theorem judged_judge (s : State) (e : HeldRead) (a : Assigned) (drop : Option Nat) :
    Judged e.stream s (s.judge e a drop) ∧ ¬(s.judge e a drop).Awaits e.stream e.ticket := by
  have hslip := (((Onward.refl s).setDrop e.stream e.path (some a.frame)).latch e.stream .slip).judged e.stream
  simp only [State.judge]
  split
  · exact judged_dropRead s e
  · split
    · exact judged_dropRead s e
    · split
      · exact (judged_dropRead _ e).imp_left hslip.trans
      · exact judged_placeRead s e a

/-- R8: the taking of a pending-apply record. -/
theorem Onward.takeApply {s t : State} (h : Onward s t) (i : StreamId) (f : Nat) : Onward s (t.takeApply i f) := by
  unfold State.takeApply
  split
  · exact h
  · next r _ =>
    split
    · exact ((h.updStream i (fun st =>
        { st with
          active := st.active.withLive r.live
          offsets := st.offsets ++ [⟨some f, r.live.launchOffset⟩]
          pendingApply := none }) ⟨rfl, fun _ => id, rfl, fun _ => ⟨rfl, rfl⟩⟩).latch i .applied).retestStream i
    · exact h

/-- R33: the course of a stream past a position of a path. -/
def Course.past (c : Course) (p : Path) : Course :=
  { c with next := fun q => if q = p then (c.next q).map c.step else c.next q }

theorem Course.past_of_none {c : Course} {p : Path} (h : c.next p = none) : c.past p = c := by
  have hnext : (fun q => if q = p then (c.next q).map c.step else c.next q) = c.next := by
    funext q
    split
    · next hq => rw [hq, h]; rfl
    · rfl
  rw [Course.past, hnext]

/-- R26: the course of a stream past the positions of several reads. -/
def Course.pasts (c : Course) (l : List HeldRead) : Course := l.foldl (fun c e => c.past e.path) c

theorem Course.pasts_fixed (c : Course) (l : List HeldRead) : (c.pasts l).first = c.first ∧
    (c.pasts l).clockNext = c.clockNext ∧ (c.pasts l).assigns = c.assigns := by
  induction l generalizing c with
  | nil => exact ⟨rfl, rfl, rfl⟩
  | cons e l ih => exact ih (c.past e.path)

/-- R26: each path stands as many positions on as reads of it were assigned. -/
theorem Course.pasts_next (c : Course) (l : List HeldRead) (q : Path) :
    (c.pasts l).next q = (c.next q).map c.step^[l.countP fun e => decide (e.path = q)] := by
  induction l generalizing c with
  | nil => rw [Course.pasts, List.foldl_nil, List.countP_nil, Function.iterate_zero, Option.map_id]; rfl
  | cons e l ih =>
    rw [List.countP_cons]
    refine (ih (c.past e.path)).trans ?_
    by_cases hq : q = e.path
    · rw [if_pos (by simp [hq])]
      show (if q = e.path then (c.next q).map c.step else c.next q).map c.step^[_] = _
      rw [if_pos hq, Option.map_map]
      rfl
    · rw [if_neg (by simpa using fun h => hq h.symm)]
      show (if q = e.path then (c.next q).map c.step else c.next q).map c.step^[_] = _
      rw [if_neg hq]
      rfl

theorem advance_course {s : State} {i : StreamId} {p : Path} {np : NextPos}
    (h : (s.stream i).nextOf p = some np) :
    ((s.advance i p np).stream i).course = (s.stream i).course.past p := by
  have hbody := advance_body s i p np
  have hnext : ((s.advance i p np).stream i).nextOf = ((s.stream i).course.past p).next := by
    funext q
    rw [advance_nextOf s i p q np h]
    show _ = if q = p then ((s.stream i).nextOf q).map (posStep (s.stream i).active) else _
    split
    · next hq => rw [hq, h]; rfl
    · rfl
  have hassigns : (fun q => (((s.advance i p np).stream i).acc.get q).isSome) =
      fun q => ((s.stream i).acc.get q).isSome := by
    funext q
    simp [State.advance, isSome_set]
  rw [Stream.course, hnext, hassigns, field_of_body Stream.first hbody, field_of_body Stream.clockNext hbody,
    field_of_body Stream.active hbody]
  rfl

/-- R26, R38: the assignment of a read held through ALIGNING, its stream ARMED. -/
theorem judged_assign {s : State} {e : HeldRead} {np : NextPos} (hst : (s.stream e.stream).state = .armed)
    (h : (s.stream e.stream).nextOf e.path = some np) :
    Judged e.stream (s.advance e.stream e.path np) (s.assign e) ∧ ¬(s.assign e).Awaits e.stream e.ticket := by
  obtain ⟨a, ha, hn⟩ := Option.bind_eq_some_iff.1 h
  have hon : ¬((s.stream e.stream).state = .draining ∧
      ∃ f, (s.stream e.stream).fStop = some f ∧ f < np.frame.frame) := fun x => nomatch hst.symm.trans x.1
  rw [assign_of_next ha hn hon]
  have htaken := ((Onward.refl (s.advance e.stream e.path np)).takeApply e.stream np.frame.frame).judged e.stream
  obtain ⟨hjudged, hgone⟩ := judged_judge ((s.advance e.stream e.path np).takeApply e.stream np.frame.frame) e
    (((s.advance e.stream e.path np).takeApply e.stream np.frame.frame).assignedOf e np) a.drop
  have hend := (((Onward.refl _).endFrame e np.n).trimOffsets e.stream).judged e.stream
    (s := ((s.advance e.stream e.path np).takeApply e.stream np.frame.frame).judge e
      (((s.advance e.stream e.path np).takeApply e.stream np.frame.frame).assignedOf e np) a.drop)
  exact ⟨(htaken.trans hjudged).trans hend, fun hu => hgone (hend.awaits _ hu)⟩

/-- A read whose path has no next position stays as it is. -/
theorem assign_of_no_next {s : State} {e : HeldRead} (h : (s.stream e.stream).nextOf e.path = none) :
    s.assign e = s := by
  unfold State.assign
  split
  · rfl
  · next a ha =>
    split
    · rfl
    · next np hn => rw [nextOf_of_acc ha hn] at h; cases h

/-- R26, R72: what the assignment of a read held through ALIGNING leaves of its stream, which was ARMED. -/
theorem assignHeld_course {s : State} {e : HeldRead} (hst : (s.stream e.stream).state = .armed) :
    ((s.assignHeld e).stream e.stream).course = (s.stream e.stream).course.past e.path ∧
      (((s.assignHeld e).stream e.stream).state = .armed ∨
        ((s.assignHeld e).stream e.stream).state = .halted ∧ ∀ u, ¬(s.assignHeld e).Awaits e.stream u) ∧
      ∀ u, (s.assignHeld e).Awaits e.stream u →
        s.Awaits e.stream u ∧ (((s.stream e.stream).nextOf e.path).isSome → u ≠ e.ticket) := by
  rw [State.assignHeld, if_pos hst]
  cases h : (s.stream e.stream).nextOf e.path with
  | none =>
    rw [assign_of_no_next h, Course.past_of_none h]
    exact ⟨rfl, .inl hst, fun u hu => ⟨hu, fun hsome => nomatch hsome⟩⟩
  | some np =>
    obtain ⟨hjudged, hgone⟩ := judged_assign hst h
    have hstate : ((s.advance e.stream e.path np).stream e.stream).state = .armed :=
      (field_of_body Stream.state (advance_body s e.stream e.path np)).trans hst
    have hair : ((s.advance e.stream e.path np).stream e.stream).state ≠ .draining := by rw [hstate]; decide
    refine ⟨(hjudged.course hair).trans (advance_course h), hstate ▸ hjudged.state hair, fun u hu => ?_⟩
    exact ⟨hjudged.awaits u hu, fun _ hut => hgone (hut ▸ hu)⟩

/-- R72: in a stream that is not ARMED the rest of the held reads stay as they are. -/
theorem foldl_assignHeld_of_halted {s : State} {i : StreamId} {l : List HeldRead} (hl : ∀ e ∈ l, e.stream = i)
    (h : (s.stream i).state = .halted) : l.foldl State.assignHeld s = s := by
  induction l with
  | nil => rfl
  | cons e l ih =>
    have hskip : s.assignHeld e = s := by
      rw [State.assignHeld, hl e List.mem_cons_self, if_neg (by rw [h]; decide)]
    rw [List.foldl_cons, hskip]
    exact ih fun x hx => hl x (List.mem_cons_of_mem e hx)

/-- R26, R72: the reads of an ARMED stream held through ALIGNING are assigned one by one until it halts. -/
theorem foldl_assignHeld {i : StreamId} (l : List HeldRead) (hl : ∀ e ∈ l, e.stream = i) (s : State)
    (h : (s.stream i).state = .armed) :
    (∃ done, ((l.foldl State.assignHeld s).stream i).course = (s.stream i).course.pasts done ∧
      (((l.foldl State.assignHeld s).stream i).state = .armed ∧ done = l ∨
        ((l.foldl State.assignHeld s).stream i).state = .halted ∧
          ∀ u, ¬(l.foldl State.assignHeld s).Awaits i u)) ∧
      ∀ u, (l.foldl State.assignHeld s).Awaits i u →
        s.Awaits i u ∧ ∀ e ∈ l, ((s.stream i).nextOf e.path).isSome → u ≠ e.ticket := by
  induction l generalizing s with
  | nil => exact ⟨⟨[], rfl, .inl ⟨h, rfl⟩⟩, fun u hu => ⟨hu, fun e he => absurd he List.not_mem_nil⟩⟩
  | cons e l ih =>
    have hrest : ∀ x ∈ l, x.stream = i := fun x hx => hl x (List.mem_cons_of_mem e hx)
    obtain rfl := hl e List.mem_cons_self
    obtain ⟨hcourse, hstate, hawaits⟩ := assignHeld_course h
    rw [List.foldl_cons]
    rcases hstate with harmed | ⟨hhalted, hnone⟩
    · obtain ⟨⟨done, hdone, hend⟩, hleft⟩ := ih hrest (s.assignHeld e) harmed
      refine ⟨⟨e :: done, hdone.trans (by rw [hcourse]; rfl), hend.imp_left fun x => ⟨x.1, by rw [x.2]⟩⟩, ?_⟩
      intro u hu
      obtain ⟨hu', hne⟩ := hleft u hu
      obtain ⟨hs, hne'⟩ := hawaits u hu'
      refine ⟨hs, fun x hx hsome => ?_⟩
      rcases List.mem_cons.1 hx with rfl | hx
      · exact hne' hsome
      · refine hne x hx ?_
        have hnext : ((s.assignHeld e).stream e.stream).nextOf = ((s.stream e.stream).course.past e.path).next :=
          congrArg Course.next hcourse
        rw [hnext]
        show (if x.path = e.path then _ else _ : Option NextPos).isSome = true
        split
        · rw [Option.isSome_map]; exact hsome
        · exact hsome
    · rw [foldl_assignHeld_of_halted hrest hhalted]
      exact ⟨⟨[e], hcourse, .inr ⟨hhalted, hnone⟩⟩, fun u hu => absurd hu (hnone u)⟩

/-! ### The completion of ALIGN -/

/-- R26: the state in which the held reads are assigned. -/
def State.alignedAt (s : State) (i : StreamId) : State :=
  (s.updStream i fun st => st.aligned ((s.stream i).firstFrameAt s.time.now)).setStreamState i .armed

theorem alignedAt_stream (s : State) (i j : StreamId) : (s.alignedAt i).stream j =
    if j = i then
      { (s.stream i).aligned ((s.stream i).firstFrameAt s.time.now) with state := .armed }
    else s.stream j := by
  rw [State.alignedAt, setStreamState_stream, updStream_stream]
  split
  · rfl
  · next hj => exact updStream_stream_ne s _ hj

/-- R26: the reads that ALIGN assigns, path A's first. -/
def State.heldReads (s : State) (i : StreamId) : List HeldRead := s.unassigned i .A ++ s.unassigned i .B

theorem completeAlign_eq {s : State} {i : StreamId} (h : (s.stream i).state = .aligning) :
    s.completeAlign i = (((s.heldReads i).foldl State.assignHeld (s.alignedAt i))).arbitrateBoth := by
  rw [State.completeAlign, if_pos h]
  rfl

theorem mem_heldReads_iff {s : State} {i : StreamId} {e : HeldRead} :
    e ∈ s.heldReads i ↔ e ∈ s.gate.held ∧ e.stream = i ∧ e.phase = .unassigned := by
  simp only [State.heldReads, State.unassigned, List.mem_append, List.mem_filter, Bool.and_eq_true,
    decide_eq_true_eq, beq_iff_eq]
  cases e.path <;> simp

/-- R26: how many reads of a path are assigned. -/
theorem countP_heldReads (s : State) (i : StreamId) (q : Path) :
    (s.heldReads i).countP (fun e => decide (e.path = q)) =
      s.gate.held.countP fun e => decide (e.stream = i ∧ e.path = q ∧ e.phase = .unassigned) := by
  have hpath : ∀ r, (s.unassigned i r).countP (fun e => decide (e.path = q)) =
      if r = q then s.gate.held.countP fun e => decide (e.stream = i ∧ e.path = q ∧ e.phase = .unassigned)
      else 0 := by
    intro r
    rw [State.unassigned, List.countP_filter]
    split
    · next hr =>
      subst hr
      refine List.countP_congr fun e _ => ?_
      simp only [Bool.and_eq_true, decide_eq_true_eq, beq_iff_eq]
      tauto
    · next hr =>
      refine List.countP_eq_zero.2 fun e _ => ?_
      simp only [Bool.and_eq_true, decide_eq_true_eq, beq_iff_eq]
      rintro ⟨hq, ⟨_, hr'⟩, _⟩
      exact hr (hr'.symm.trans hq)
  rw [State.heldReads, List.countP_append, hpath, hpath]
  cases q <;> simp

/-- R26: the course on which a stream starts. -/
theorem alignedAt_course (s : State) (i : StreamId) :
    ((s.alignedAt i).stream i).course =
      { first := some ⟨((s.stream i).firstFrameAt s.time.now).frame, ((s.stream i).firstFrameAt s.time.now).start⟩
        clockNext := some ((s.stream i).firstFrameAt s.time.now)
        assigns := fun q => ((s.stream i).acc.get q).isSome
        next := fun q => ((s.stream i).acc.get q).map fun _ => firstPos ((s.stream i).firstFrameAt s.time.now)
        step := posStep (s.stream i).active } := by
  have hassigns : (fun q => (((s.alignedAt i).stream i).acc.get q).isSome) =
      fun q => ((s.stream i).acc.get q).isSome := by
    funext q
    rw [alignedAt_stream, if_pos rfl]
    cases q <;> exact Option.isSome_map
  have hnext : ((s.alignedAt i).stream i).nextOf =
      fun q => ((s.stream i).acc.get q).map fun _ => firstPos ((s.stream i).firstFrameAt s.time.now) := by
    funext q
    rw [alignedAt_stream, if_pos rfl]
    cases q <;> exact Option.bind_map.trans Option.map_eq_bind.symm
  rw [Stream.course, hassigns, hnext, alignedAt_stream, if_pos rfl]
  rfl

/-- R26, R72: the stream after the completion of ALIGN, and its reads that are still UNASSIGNED. -/
theorem completeAlign_stream {s : State} {i : StreamId} {x : FrameRec} (h : (s.stream i).state = .aligning)
    (hx : (s.stream i).firstFrameAt s.time.now = x) :
    ((s.completeAlign i).stream i).first = some ⟨x.frame, x.start⟩ ∧
      ((s.completeAlign i).stream i).clockNext = some x ∧
      (((s.completeAlign i).stream i).state = .armed ∨ ((s.completeAlign i).stream i).state = .halted) ∧
      (∀ u, (s.completeAlign i).Awaits i u →
        s.Awaits i u ∧ ∀ e ∈ s.heldReads i, ((s.stream i).acc.get e.path).isSome → u ≠ e.ticket) ∧
      (((s.completeAlign i).stream i).state = .armed → ∀ q a,
        ((s.completeAlign i).stream i).acc.get q = some a →
        a.next = some ((posStep (s.stream i).active)^[(s.heldReads i).countP fun e => decide (e.path = q)]
          (firstPos x))) := by
  have haligned := alignedAt_course s i
  rw [hx] at haligned
  have harmed : ((s.alignedAt i).stream i).state = .armed := by rw [alignedAt_stream, if_pos rfl]
  obtain ⟨⟨done, hcourse, hend⟩, hleft⟩ :=
    foldl_assignHeld (s.heldReads i) (fun e he => (mem_heldReads_iff.1 he).2.1) (s.alignedAt i) harmed
  rw [completeAlign_eq h]
  generalize (s.heldReads i).foldl State.assignHeld (s.alignedAt i) = w at hcourse hend hleft
  have hair : (w.stream i).state ≠ .draining := by
    rcases hend with ⟨hw, _⟩ | ⟨hw, _⟩ <;> rw [hw] <;> decide
  have honward := (Onward.refl w).arbitrateBoth
  generalize w.arbitrateBoth = v at honward
  obtain ⟨hstate, hkept⟩ := (honward.streams i).run hair
  replace hcourse := hkept.trans hcourse
  obtain ⟨hfirst, hclock, hassigns⟩ := ((s.alignedAt i).stream i).course.pasts_fixed done
  rw [← hcourse, haligned] at hfirst hclock hassigns
  refine ⟨hfirst, hclock, ?_, fun u hu => ?_, fun hv q a ha => ?_⟩
  · rw [hstate]
    exact hend.imp And.left And.left
  · obtain ⟨hs, hne⟩ := hleft u (honward.awaits i u hu)
    refine ⟨hs, fun e he hsome => hne e he ?_⟩
    rw [show ((s.alignedAt i).stream i).nextOf e.path = _ from congrFun (congrArg Course.next haligned) e.path]
    exact Option.isSome_map.trans hsome
  · obtain rfl : done = s.heldReads i := by
      rcases hend with ⟨_, hdone⟩ | ⟨hw, _⟩
      · exact hdone
      · exact nomatch hv.symm.trans (hstate.trans hw)
    have hpath : ((s.stream i).acc.get q).isSome = true :=
      (congrFun hassigns q).symm.trans (Option.isSome_iff_exists.2 ⟨a, ha⟩)
    obtain ⟨a0, ha0⟩ := Option.isSome_iff_exists.1 hpath
    have hnext := congrFun (congrArg Course.next hcourse) q
    rw [Course.pasts_next, haligned] at hnext
    calc a.next = (v.stream i).nextOf q := by rw [Stream.nextOf, ha]; rfl
      _ = _ := hnext
      _ = ((some a0).map fun _ => firstPos x).map
          (posStep (s.stream i).active)^[(s.heldReads i).countP fun e => decide (e.path = q)] := by rw [← ha0]

/-- R26: with no read held and nothing to grant, the first frame is fixed and the stream armed, and that is all. -/
theorem completeAlign_of_no_reads {s : State} {i : StreamId} (h : (s.stream i).state = .aligning)
    (hnone : s.heldReads i = []) (hq : NothingToGrant s) : s.completeAlign i = s.alignedAt i := by
  have hquiet : NothingToGrant (s.alignedAt i) := hq
  rw [completeAlign_eq h, hnone, List.foldl_nil, arbitrateBoth_of_nothingToGrant hquiet]

/-- Settles O24: the held reads are assigned one by one from the first position on, and a halt leaves none of them. -/
theorem alignFixesFirstFrame : Obligations.AlignFixesFirstFrame := by
  intro s i offset hr hst ho hnum hden p x held
  let f := (alignFrame p (s.stream i).tArm).frame
  let f0 := if f * p.num / p.den + offset < s.time.now then f + 1 else f
  have hf0 : (s.stream i).firstFrameAt s.time.now = frameAt p f0 := firstFrameAt_eq ho hden
  obtain ⟨hfirst, hclock, hstate, hawaits, hnext⟩ := completeAlign_stream hst hf0
  obtain ⟨v, hv⟩ : ∃ v, s.completeAlign i = v := ⟨_, rfl⟩
  have hexec : exec (.alignCompletion i) s = .next (settle s v) := by
    show Host.Outcome.next (event (·.completeAlign i) s) = _
    rw [event_live hr, hv]
  rw [hv] at hfirst hclock hstate hawaits hnext
  rw [← settle_stream s v i] at hfirst hclock hstate hnext
  refine ⟨settle s v, f, hexec, fun g => le_alignFrame_iff p _ g hnum hden, hfirst, hclock, hstate,
    fun _ hrun hair => ⟨fun e he hei hphase => ?_, fun harmed q a ha => ?_⟩, fun hheld hq => ?_⟩
  · obtain ⟨⟨y, hy, hyi, hyphase, hyticket⟩, hgone⟩ := hawaits e.ticket ⟨e, he, hei, hphase, rfl⟩
    obtain ⟨hset, hidle, _⟩ := hair y hy (by rw [hyphase]; decide)
    have hacc := ((hrun y.stream).2 hidle).2 y.path
    rw [hyi] at hset hacc
    exact hgone y (mem_heldReads_iff.2 ⟨hy, hyi, hyphase⟩) (hacc.1.2 hset) hyticket.symm
  · rw [hnext harmed q a ha, countP_heldReads]
    rfl
  · have hnone : s.heldReads i = [] := by
      refine List.eq_nil_iff_forall_not_mem.2 fun e he => ?_
      obtain ⟨hmem, hi, hphase⟩ := mem_heldReads_iff.1 he
      exact hheld e.path e hmem ⟨hi, rfl, hphase⟩
    obtain rfl : s.alignedAt i = v := (completeAlign_of_no_reads hst hnone hq).symm.trans hv
    refine ⟨rfl, fun j => ?_, statusBecomes_settle rfl fun r => ?_⟩
    · rw [settle_stream, alignedAt_stream, hf0]
      split
      · rw [Stream.aligned, ho]
        cases (s.stream i).pendingApply with
        | none => rfl
        | some r => obtain ⟨_, _ | _⟩ := r <;> rfl
      · rfl
    · rw [List.mem_singleton]
      exact mem_setStreamState _

end Sys2Proof.Machine
end

-- The writes of the carve table (R47).
section
namespace Sys2Proof.Machine

open Sys2Proof

theorem carveBase_of_lt (carve : Vector Nat 24) {k : Nat} (h : k < 24) : carveBase carve k = carve[k] := dif_pos h

/-- R47: the stream of the entry or the one before it is not IDLE. -/
theorem carveBusy_iff (s : State) (k : StreamId) :
    s.carveBusy k = true ↔
      (s.stream k).state ≠ .idle ∨ ∃ j : StreamId, j.val + 1 = k.val ∧ (s.stream j).state ≠ .idle := by
  simp only [State.carveBusy, Bool.or_eq_true, Bool.and_eq_true, decide_eq_true_eq, bne_iff_ne]
  refine or_congr_right ⟨fun ⟨hpos, hj⟩ => ⟨⟨k.val - 1, by omega⟩, Nat.sub_add_cancel hpos, hj⟩, ?_⟩
  rintro ⟨j, hj, hstate⟩
  have hprev : (⟨k.val - 1, by omega⟩ : StreamId) = j := Fin.ext (show k.val - 1 = j.val by omega)
  exact ⟨by omega, hprev ▸ hstate⟩

/-- R47: a value within the table's range is out of order with the entry before or the entry after. The top,
base[24], is never below such a value. -/
theorem carve_disorder_iff (carve : Vector Nat 24) (k : Fin 24) {v : Nat} (hv : v ≤ 12288) :
    (0 < k.val ∧ v < carveBase carve (k.val - 1)) ∨ carveBase carve (k.val + 1) < v ↔
      (∃ j : Fin 24, j.val + 1 = k.val ∧ v < carve[j.val]) ∨
        ∃ j : Fin 24, j.val = k.val + 1 ∧ carve[j.val] < v := by
  refine or_congr ⟨fun ⟨hpos, hlt⟩ => ?_, ?_⟩ ⟨fun hlt => ?_, ?_⟩
  · rw [carveBase_of_lt carve (by omega)] at hlt
    exact ⟨⟨k.val - 1, by omega⟩, Nat.sub_add_cancel hpos, hlt⟩
  · rintro ⟨j, hj, hlt⟩
    rw [← hj, Nat.add_sub_cancel, carveBase_of_lt carve j.isLt]
    exact ⟨Nat.succ_pos _, hlt⟩
  · by_cases hk : k.val + 1 < 24
    · rw [carveBase_of_lt carve hk] at hlt
      exact ⟨⟨k.val + 1, hk⟩, rfl, hlt⟩
    · rw [carveBase, dif_neg hk] at hlt
      omega
  · rintro ⟨j, hj, hlt⟩
    rwa [← hj, carveBase_of_lt carve j.isLt]

/-- R47: the result of a carve write. -/
def State.carveResult (s : State) (k : StreamId) (v : Nat) : ResultCode :=
  if s.carveBusy k then .busy
  else if (0 < k.val ∧ v < carveBase s.carve (k.val - 1)) ∨ carveBase s.carve (k.val + 1) < v then .order
  else .done

/-- R47: a carve write stores its value where its result is DONE, and nothing otherwise. -/
theorem ownCarve_eq (s : State) (k : StreamId) (v : Nat) :
    s.ownCarve k.val v =
      (s.carveResult k v,
        s.withCarve (if s.carveResult k v = .done then s.carve.set k.val v else s.carve)) := by
  rw [State.ownCarve, dif_pos k.isLt, State.carveResult]
  split
  · rfl
  · split <;> rfl

@[simp] theorem noteClamp_carveResult (s : State) (c : Bool) (k : StreamId) (v : Nat) :
    (s.noteClamp c).carveResult k v = s.carveResult k v := by
  cases c <;> rfl

/-- Settles O9: the word's result is that of the carve write, which stores the value or leaves the table. -/
theorem carveWriteChecksThenStores : Obligations.CarveWriteChecksThenStores := by
  intro v s k hr hsel stored busy disorder
  have hbusy : s.carveBusy k = true ↔ busy := carveBusy_iff s k
  have hdisorder := carve_disorder_iff s.carve k (Nat.min_le_left 12288 v.toNat)
  have hclamp : clampData s.refRec s.decoder.sel v.toNat = stored := by
    simp only [clampData, hsel, clamp, stored]; omega
  let r := s.carveResult k stored
  let o : State :=
    { s with
      carve := if r = .done then s.carve.set k.val stored else s.carve
      status := (s.noteClamp (decide (stored ≠ v.toNat))).status }
  have hoffer : (s.noteClamp (decide (stored ≠ v.toNat))).offer s.decoder.sel stored = (r, o) := by
    simp only [State.offer, hsel, ownCarve_eq, noteClamp_carveResult, noteClamp_carve]
    rw [noteClamp_frame]
    rfl
  have hexec : exec (.carveWrite v) s = .next (settle s
      ((o.withDecoder { o.decoder with sel := s.decoder.sel.advance }).endCommand r fun e =>
        e.withData s.decoder.sel r stored (decide (stored ≠ v.toNat)))) := by
    show Host.Outcome.next (event (·.takeData v) s) = _
    rw [event_live hr, takeData_selected s v (by simp [hsel]), State.takeSelectedData, hclamp, hoffer]
  refine ⟨_, r, hexec, ?_, fun hb => ?_, fun hb hd => ?_, fun hb hd => ?_, fun j => ?_,
    dataTaken_end rfl (noteClamp_events s _) (noteClamp_counters s _) (noteClamp_mask s _)
      (noteClamp_summaryMask s _) fun x => ?_⟩
  · rw [settle_frame, endCommand_frame]
    rfl
  · exact if_pos (hbusy.2 hb)
  · exact (if_neg (mt hbusy.1 hb)).trans (if_pos (hdisorder.2 hd))
  · exact (if_neg (mt hbusy.1 hb)).trans (if_neg (mt hdisorder.1 hd))
  · rw [settle_carve, endCommand_carve]
    show (if r = .done then s.carve.set k.val stored else s.carve)[j.val] = _
    by_cases hdone : r = .done
    · simp only [hdone, if_true, and_true, Vector.getElem_set, Fin.ext_iff, eq_comm]
    · simp only [hdone, if_false, and_false]
  · exact (mem_noteClamp s _ x).trans (by simp)

end Sys2Proof.Machine
end

-- The payload bytes of a fill write, segment by segment (R53, R54).
section
namespace Sys2Proof.Machine

open Sys2Proof

/-! ### The bytes of a segment -/

/-- R53: the address of the first byte of segment k of slot j. -/
def Params.segStart (p : Params) (j k : Nat) : Nat := p.windowBase + j * p.lineStride + k * p.segStride

/-- R53: an address holds a payload byte of segment k of slot j. -/
def Params.InSegment (p : Params) (x j k : Nat) : Prop := p.segStart j k ≤ x ∧ x < p.segStart j k + p.segLen

theorem bytesInSegment_eq (p : Params) (x : Nat) (d : List Byte) (j k : Nat) :
    bytesInSegment p x d j k = (d.take (p.segStart j k + p.segLen - x)).drop (p.segStart j k - x) := rfl

@[simp] theorem bytesInSegment_nil (p : Params) (x j k : Nat) : bytesInSegment p x [] j k = [] := by
  simp [bytesInSegment_eq]

/-- R53: the front byte of a write is one of the segment's where its address is. -/
theorem bytesInSegment_cons_of_in {p : Params} {x j k : Nat} (h : p.InSegment x j k) (b : Byte) (bs : List Byte) :
    bytesInSegment p x (b :: bs) j k = b :: bytesInSegment p (x + 1) bs j k := by
  obtain ⟨hlo, hhi⟩ := h
  simp only [bytesInSegment_eq]
  rw [Nat.sub_eq_zero_of_le hlo, Nat.sub_eq_zero_of_le (Nat.le_succ_of_le hlo), List.drop_zero, List.drop_zero,
    show p.segStart j k + p.segLen - x = p.segStart j k + p.segLen - (x + 1) + 1 by omega, List.take_succ_cons]

theorem bytesInSegment_cons_of_not_in {p : Params} {x j k : Nat} (h : ¬p.InSegment x j k) (b : Byte)
    (bs : List Byte) : bytesInSegment p x (b :: bs) j k = bytesInSegment p (x + 1) bs j k := by
  simp only [bytesInSegment_eq]
  by_cases hlo : p.segStart j k ≤ x
  · have hhi : p.segStart j k + p.segLen ≤ x := Nat.le_of_not_lt fun hlt => h ⟨hlo, hlt⟩
    rw [Nat.sub_eq_zero_of_le hhi, Nat.sub_eq_zero_of_le (Nat.le_succ_of_le hhi)]
    simp
  · rw [show p.segStart j k + p.segLen - x = p.segStart j k + p.segLen - (x + 1) + 1 by omega,
      show p.segStart j k - x = p.segStart j k - (x + 1) + 1 by omega, List.take_succ_cons, List.drop_succ_cons]

/-- R53: a segment's bytes are contiguous: one that holds an address and a later byte of a write holds the next. -/
theorem inSegment_succ {p : Params} {x j k : Nat} {d : List Byte} (h : p.InSegment x j k)
    (hd : bytesInSegment p (x + 1) d j k ≠ []) : d ≠ [] ∧ p.InSegment (x + 1) j k := by
  refine ⟨fun hnil => hd (by rw [hnil, bytesInSegment_nil]), Nat.le_succ_of_le h.1, ?_⟩
  by_contra hhi
  refine hd ?_
  rw [bytesInSegment_eq, Nat.sub_eq_zero_of_le (Nat.le_of_not_lt hhi)]
  simp

/-! ### The segment of an address -/

/-- R10, R53, R139: a stream's window holds R slots of a layout that an ARM accepts. -/
structure Stream.LaidOut (st : Stream) : Prop where
  window : st.window = some ⟨st.active.windowBase, st.ring * st.active.lineStride⟩
  line : st.active.segsPerLine * st.active.segStride ≤ st.active.lineStride
  seg : st.active.segLen ≤ st.active.segStride

/-- R53: the spot of a byte of segment k of slot j. -/
theorem spotOf_segment_byte (p : Params) (len j k off : Nat) (ho : off < p.segStride) (hk : k < p.segsPerLine)
    (hl : p.segsPerLine * p.segStride ≤ p.lineStride) :
    spotOf p ⟨p.windowBase, len⟩ (p.segStart j k + off) = ⟨j, k, off⟩ := by
  have hseg : (k + 1) * p.segStride ≤ p.segsPerLine * p.segStride := Nat.mul_le_mul_right _ hk
  rw [Nat.succ_mul] at hseg
  have hx : p.segStart j k + off - p.windowBase = off + k * p.segStride + j * p.lineStride := by
    rw [Params.segStart]; omega
  have hj : (off + k * p.segStride + j * p.lineStride) / p.lineStride = j := by
    rw [Nat.add_mul_div_right _ _ (by omega), Nat.div_eq_of_lt (by omega), Nat.zero_add]
  have hseg' : (off + k * p.segStride) / p.segStride = k := by
    rw [Nat.add_mul_div_right _ _ (by omega), Nat.div_eq_of_lt ho, Nat.zero_add]
  simp only [spotOf, hx, hj, Nat.add_sub_cancel, hseg']

theorem segStart_spotOf (p : Params) (w : Window) (x : Nat) (hw : w.base = p.windowBase) (hx : w.base ≤ x) :
    p.segStart (spotOf p w x).slot (spotOf p w x).seg + (spotOf p w x).off = x := by
  have hline := Nat.div_mul_le_self (x - w.base) p.lineStride
  have hseg := Nat.div_mul_le_self (x - w.base - (x - w.base) / p.lineStride * p.lineStride) p.segStride
  simp only [spotOf, Params.segStart]
  omega

/-- R53: the segment whose payload an address of the window holds. -/
theorem payloadSpot_eq_some_iff {st : Stream} (h : st.LaidOut) (x j k : Nat) :
    st.payloadSpot x = some (j, k) ↔
      j < st.ring ∧ k < st.active.segsPerLine ∧ st.active.InSegment x j k := by
  simp only [Stream.payloadSpot, h.window, Option.ite_none_right_eq_some, Option.some.injEq, Prod.mk.injEq,
    Bool.and_eq_true, decide_eq_true_eq, Window.has]
  constructor
  · rintro ⟨⟨⟨⟨hlo, hhi⟩, hseg⟩, hoff⟩, rfl, rfl⟩
    have hx := segStart_spotOf st.active ⟨st.active.windowBase, st.ring * st.active.lineStride⟩ x rfl hlo
    have hin : x - st.active.windowBase < st.active.lineStride * st.ring := by
      rw [Nat.mul_comm]
      exact Nat.sub_lt_left_of_lt_add hlo hhi
    exact ⟨Nat.div_lt_of_lt_mul hin, hseg, by omega, by omega⟩
  · rintro ⟨hj, hk, hlo, hhi⟩
    have hoff : x - st.active.segStart j k < st.active.segLen := by omega
    have hspot := spotOf_segment_byte st.active (st.ring * st.active.lineStride) j k (x - st.active.segStart j k)
      (Nat.lt_of_lt_of_le hoff h.seg) hk h.line
    rw [Nat.add_sub_cancel' hlo] at hspot
    have hslot : (j + 1) * st.active.lineStride ≤ st.ring * st.active.lineStride := Nat.mul_le_mul_right _ hj
    have hlast : (k + 1) * st.active.segStride ≤ st.active.segsPerLine * st.active.segStride :=
      Nat.mul_le_mul_right _ hk
    rw [Nat.succ_mul] at hslot hlast
    have hline := h.line
    have hseg := h.seg
    rw [hspot]
    rw [Params.segStart] at hlo hhi
    exact ⟨⟨⟨⟨by omega, by omega⟩, hk⟩, hoff⟩, rfl, rfl⟩

/-! ### The touches of a write -/

/-- The slot and the segment of a touch. -/
def Touch.spot (t : Touch) : Nat × Nat := (t.slot, t.seg)

/-- R53, R54: what a write brings to segment k of slot j. -/
def touchOf (p : Params) (x : Nat) (d : List Byte) (j k : Nat) : Touch :=
  ⟨j, k, (bytesInSegment p x d j k).length, byteSum (bytesInSegment p x d j k)⟩

/-- The touches of one segment. -/
def touchesAt (j k : Nat) (l : List Touch) : List Touch := l.filter fun t => t.spot == (j, k)

theorem mem_touchesAt {j k : Nat} {l : List Touch} {t : Touch} : t ∈ touchesAt j k l ↔ t ∈ l ∧ t.spot = (j, k) := by
  simp [touchesAt]

theorem touchesAt_cons_of_at {j k : Nat} {t : Touch} (h : t.spot = (j, k)) (l : List Touch) :
    touchesAt j k (t :: l) = t :: touchesAt j k l := List.filter_cons_of_pos (by simpa using h)

theorem touchesAt_cons_of_not_at {j k : Nat} {t : Touch} (h : t.spot ≠ (j, k)) (l : List Touch) :
    touchesAt j k (t :: l) = touchesAt j k l := List.filter_cons_of_neg (by simpa using h)

theorem addTouch_joins (b : Byte) (t : Touch) (l : List Touch) :
    addTouch t.slot t.seg b (t :: l) = { t with count := t.count + 1, sum := b.zeroExtend 32 + t.sum } :: l := by
  simp [addTouch]

theorem addTouch_begins (j k : Nat) (b : Byte) {l : List Touch} (h : ∀ t ∈ l.head?, t.spot ≠ (j, k)) :
    addTouch j k b l = ⟨j, k, 1, b.zeroExtend 32⟩ :: l := by
  cases l with
  | nil => rfl
  | cons t l =>
    refine if_neg fun hat => h t rfl ?_
    rw [Touch.spot, hat.1, hat.2]

/-- A byte's touch stands at the front, joined with the touch that stood there or before it. -/
theorem addTouch_cases (j k : Nat) (b : Byte) (l : List Touch) :
    (∃ t l', l = t :: l' ∧ t.spot = (j, k) ∧
        addTouch j k b l = { t with count := t.count + 1, sum := b.zeroExtend 32 + t.sum } :: l') ∨
      addTouch j k b l = ⟨j, k, 1, b.zeroExtend 32⟩ :: l := by
  by_cases h : ∃ t ∈ l.head?, t.spot = (j, k)
  · obtain ⟨t, ht, hspot⟩ := h
    obtain ⟨l', rfl⟩ := List.head?_eq_some_iff.1 ht
    cases hspot
    exact Or.inl ⟨t, l', rfl, rfl, addTouch_joins b t l'⟩
  · exact Or.inr (addTouch_begins j k b fun t ht hat => h ⟨t, ht, hat⟩)

theorem touchesAt_addTouch_ne {j k j' k' : Nat} (h : (j, k) ≠ (j', k')) (b : Byte) (l : List Touch) :
    touchesAt j' k' (addTouch j k b l) = touchesAt j' k' l := by
  rcases addTouch_cases j k b l with ⟨t, l', rfl, hspot, heq⟩ | heq
  · rw [heq, touchesAt_cons_of_not_at (hspot ▸ h), touchesAt_cons_of_not_at (t := { t with .. }) (hspot ▸ h)]
  · rw [heq, touchesAt_cons_of_not_at (t := ⟨j, k, _, _⟩) h]

/-- A byte of a segment not touched so far is a touch of its own. -/
theorem touchesAt_addTouch_begins {j k : Nat} {l : List Touch} (h : touchesAt j k l = []) (b : Byte) :
    touchesAt j k (addTouch j k b l) = [⟨j, k, 1, b.zeroExtend 32⟩] := by
  have hhead : ∀ t ∈ l.head?, t.spot ≠ (j, k) := fun t ht hat =>
    List.not_mem_nil (h ▸ mem_touchesAt.2 ⟨List.mem_of_mem_head? ht, hat⟩)
  rw [addTouch_begins j k b hhead, touchesAt_cons_of_at (t := ⟨j, k, _, _⟩) rfl, h]

/-- A byte of the segment that the front touch is of joins it. -/
theorem touchesAt_addTouch_joins {j k : Nat} {t : Touch} (h : t.spot = (j, k)) (b : Byte) (l : List Touch) :
    touchesAt j k (addTouch j k b (t :: l)) =
      { t with count := t.count + 1, sum := b.zeroExtend 32 + t.sum } :: touchesAt j k l := by
  cases h
  rw [addTouch_joins]
  exact touchesAt_cons_of_at rfl l

/-- A write that begins with a payload byte of a segment begins with that segment's touch. -/
theorem touches_head {st : Stream} {x j k : Nat} {d : List Byte} (hd : d ≠ []) (h : st.payloadSpot x = some (j, k)) :
    ∃ t l, touches st x d = t :: l ∧ t.spot = (j, k) := by
  obtain ⟨b, bs, rfl⟩ := List.exists_cons_of_ne_nil hd
  simp only [touches, h]
  rcases addTouch_cases j k b (touches st (x + 1) bs) with ⟨t, l, _, hspot, heq⟩ | heq
  · exact ⟨_, _, heq, hspot⟩
  · exact ⟨_, _, heq, rfl⟩

/-- R53, R54: a write has one touch of each segment it has a byte of, and that touch holds all its bytes there. -/
theorem touchesAt_touches {st : Stream} (h : st.LaidOut) (x : Nat) (d : List Byte) (j k : Nat) :
    touchesAt j k (touches st x d) =
      if j < st.ring ∧ k < st.active.segsPerLine ∧ bytesInSegment st.active x d j k ≠ [] then
        [touchOf st.active x d j k]
      else [] := by
  induction d generalizing x with
  | nil => simp [touches, touchesAt]
  | cons b bs ih =>
    have unchanged : ¬(j < st.ring ∧ k < st.active.segsPerLine ∧ st.active.InSegment x j k) →
        touchesAt j k (touches st (x + 1) bs) =
          if j < st.ring ∧ k < st.active.segsPerLine ∧ bytesInSegment st.active x (b :: bs) j k ≠ [] then
            [touchOf st.active x (b :: bs) j k]
          else [] := fun hout => by
      rw [ih (x + 1)]
      by_cases hjk : j < st.ring ∧ k < st.active.segsPerLine
      · have hsame := bytesInSegment_cons_of_not_in (fun hin => hout ⟨hjk.1, hjk.2, hin⟩) b bs
        simp only [touchOf, hsame]
      · simp only [← and_assoc, hjk, false_and, if_false]
    cases hspot : st.payloadSpot x with
    | none =>
      simp only [touches, hspot]
      exact unchanged fun hin => nomatch hspot.symm.trans ((payloadSpot_eq_some_iff h x j k).2 hin)
    | some spot =>
      obtain ⟨j0, k0⟩ := spot
      simp only [touches, hspot]
      by_cases hjk : (j0, k0) = (j, k)
      · cases hjk
        obtain ⟨hj, hk, hin⟩ := (payloadSpot_eq_some_iff h x j k).1 hspot
        have hmine := bytesInSegment_cons_of_in hin b bs
        have hih := ih (x + 1)
        rw [if_pos ⟨hj, hk, by rw [hmine]; exact List.cons_ne_nil _ _⟩, touchOf, hmine]
        by_cases hrest : bytesInSegment st.active (x + 1) bs j k = []
        · rw [if_neg (fun hc => hc.2.2 hrest)] at hih
          rw [touchesAt_addTouch_begins hih, hrest]
          simp [byteSum]
        · obtain ⟨hbs, hnext⟩ := inSegment_succ hin hrest
          obtain ⟨t, l, heq, hat⟩ := touches_head hbs ((payloadSpot_eq_some_iff h (x + 1) j k).2 ⟨hj, hk, hnext⟩)
          rw [if_pos ⟨hj, hk, hrest⟩, heq, touchesAt_cons_of_at hat, List.cons.injEq] at hih
          obtain ⟨rfl, hl⟩ := hih
          rw [heq, touchesAt_addTouch_joins hat, hl]
          rfl
      · rw [touchesAt_addTouch_ne hjk]
        exact unchanged fun hin => hjk (Option.some.inj (hspot.symm.trans ((payloadSpot_eq_some_iff h x j k).2 hin)))

theorem mem_touches_iff {st : Stream} (h : st.LaidOut) (x : Nat) (d : List Byte) (t : Touch) :
    t ∈ touches st x d ↔ t.slot < st.ring ∧ t.seg < st.active.segsPerLine ∧
      bytesInSegment st.active x d t.slot t.seg ≠ [] ∧ t = touchOf st.active x d t.slot t.seg := by
  have hat : t ∈ touches st x d ↔ t ∈ touchesAt t.slot t.seg (touches st x d) := by
    simp [mem_touchesAt, Touch.spot]
  rw [hat, touchesAt_touches h]
  split
  · next hc => simp [hc]
  · next hc => exact iff_of_false List.not_mem_nil fun ⟨hj, hk, hne, _⟩ => hc ⟨hj, hk, hne⟩

/-- R54: a write touches no segment twice. -/
theorem nodup_spots_touches {st : Stream} (h : st.LaidOut) (x : Nat) (d : List Byte) :
    ((touches st x d).map Touch.spot).Nodup := by
  refine List.nodup_iff_count_le_one.2 fun ⟨j, k⟩ => ?_
  have hcount : ((touches st x d).map Touch.spot).count (j, k) = (touchesAt j k (touches st x d)).length := by
    rw [List.count, List.countP_map, List.countP_eq_length_filter]
    rfl
  rw [hcount, touchesAt_touches h]
  split <;> simp

/-- R53, R54: a count over the segments a write touches is a count over the window's segments. -/
theorem countP_touches {st : Stream} (h : st.LaidOut) (x : Nat) (d : List Byte) (f : Nat → Nat → Bool) :
    (touches st x d).countP (fun t => f t.slot t.seg) =
      ((List.range st.ring).map fun j => (List.range st.active.segsPerLine).countP fun k =>
        decide (bytesInSegment st.active x d j k ≠ []) && f j k).sum := by
  let touched : Nat × Nat → Bool := fun q => decide (bytesInSegment st.active x d q.1 q.2 ≠ [])
  let spots := List.range st.ring ×ˢ List.range st.active.segsPerLine
  have hspots (j k : Nat) : (j, k) ∈ spots ↔ j < st.ring ∧ k < st.active.segsPerLine := by
    simp [spots]
  have hperm : ((touches st x d).map Touch.spot).Perm (spots.filter touched) := by
    refine (List.perm_ext_iff_of_nodup (nodup_spots_touches h x d)
      ((List.nodup_range.product List.nodup_range).filter _)).2 fun ⟨j, k⟩ => ?_
    rw [List.mem_filter, hspots]
    simp only [List.mem_map, mem_touches_iff h, touched, decide_eq_true_eq, Touch.spot, Prod.mk.injEq]
    constructor
    · rintro ⟨t, ⟨hj, hk, hne, _⟩, rfl, rfl⟩
      exact ⟨⟨hj, hk⟩, hne⟩
    · rintro ⟨⟨hj, hk⟩, hne⟩
      exact ⟨touchOf st.active x d j k, ⟨hj, hk, hne, rfl⟩, rfl, rfl⟩
  calc (touches st x d).countP (fun t => f t.slot t.seg)
      = ((touches st x d).map Touch.spot).countP (fun q => f q.1 q.2) := by rw [List.countP_map]; rfl
    _ = (spots.filter touched).countP (fun q => f q.1 q.2) := hperm.countP_eq _
    _ = spots.countP (fun q => f q.1 q.2 && touched q) := List.countP_filter
    _ = _ := by
      simp only [spots, SProd.sprod, List.product, List.countP_flatMap, List.countP_map, Function.comp_def, touched,
        Bool.and_comm]

end Sys2Proof.Machine
end

-- The accounting of the touched segments one by one (R55 to R58).
section
namespace Sys2Proof.Machine

open Sys2Proof

/-! ### The segment table -/

theorem lookupSeg_storeSeg (l : List (Nat × SegRecord)) (idx n : Nat) (r : SegRecord) :
    lookupSeg (storeSeg l idx r) n = if n = idx then r else lookupSeg l n := by
  induction l with
  | nil => simp [storeSeg, lookupSeg, eq_comm]
  | cons e l ih =>
    obtain ⟨k, x⟩ := e
    simp only [storeSeg]
    split
    · simp [lookupSeg, eq_comm]
    · next hlt =>
      split
      · next heq =>
        subst heq
        simp only [lookupSeg, eq_comm (a := n)]
        split <;> rfl
      · next hne =>
        simp only [lookupSeg, ih]
        by_cases hk : k = n
        · rw [if_pos hk, if_pos hk, if_neg fun h => hne (h.symm.trans hk.symm)]
        · rw [if_neg hk, if_neg hk]

theorem releasedAny_iff (r : SegRecord) : releasedAny r = true ↔ r.released ≠ ⟨false, false⟩ := by
  obtain ⟨_, _, _, _, a, b⟩ := r
  cases a <;> cases b <;> simp [releasedAny]

/-- R56: the sum of data bytes, as the sum of their values reduced modulo 2^32. -/
theorem byteSum_eq (d : List Byte) : byteSum d = BitVec.ofNat 32 (d.map BitVec.toNat).sum := by
  induction d with
  | nil => rfl
  | cons b d ih =>
    rw [byteSum, ih, List.map_cons, List.sum_cons, BitVec.ofNat_add, BitVec.ofNat_toNat]

/-- R56, R57: the accounting of bytes into a record. -/
theorem accountInto_eq_recordAfter (r : SegRecord) (L now : Nat) (d : List Byte) :
    accountInto r L d.length (byteSum d) now = recordAfter r L d now := by
  have hfull : min L (r.bytes + d.length) = L ↔ L ≤ r.bytes + d.length := min_eq_left_iff
  simp only [accountInto, recordAfter, byteSum_eq, hfull]

/-! ### What a TORN write leaves of its stream -/

/-- R58: a stream for which TORN (bit 7) has been latched and counted. -/
def Stream.torn (st : Stream) : Stream :=
  { st with events := st.events ||| 128#16, counters := bump st.counters 7 }

/-- What the latching and the counting of TORN leave alone they leave alone any number of times. -/
theorem iterate_torn_keeps {α : Type} (f : Stream → α) (hf : ∀ st : Stream, f st.torn = f st) (n : Nat) (st : Stream) :
    f (Stream.torn^[n] st) = f st := by
  induction n with
  | zero => rfl
  | succ n ih => rw [Function.iterate_succ_apply', hf, ih]

theorem iterate_torn_of_pos {n : Nat} (hn : 0 < n) (st : Stream) :
    Stream.torn^[n] st =
      { st with events := st.events ||| 128#16, counters := (fun v => bump v 7)^[n] st.counters } := by
  induction n, hn using Nat.le_induction with
  | base => rfl
  | succ n _ ih =>
    rw [Function.iterate_succ_apply', ih, Function.iterate_succ_apply']
    simp [Stream.torn, BitVec.or_assoc]

/-- The touches of a write depend on a stream's window and active copy alone. -/
theorem touches_torn (st : Stream) (x : Nat) (d : List Byte) : touches st.torn x d = touches st x d := by
  have hspot (y : Nat) : st.torn.payloadSpot y = st.payloadSpot y := rfl
  induction d generalizing x with
  | nil => rfl
  | cons b d ih => simp only [touches, hspot, ih]

/-! ### One touched segment -/

/-- A touched segment of a stream's window. -/
abbrev StreamTouch := StreamId × Touch

/-- R48: the number of the record of a touched segment. -/
def State.recordOf (s : State) (x : StreamTouch) : Nat := s.recordIndex x.1 x.2.slot x.2.seg

/-- R55: the record a touch finds, re-armed for its line if it holds another. -/
def State.foundBy (s : State) (x : StreamTouch) : SegRecord :=
  rearmFor (lookupSeg s.segs (s.recordOf x))
    (writeLine ((s.stream x.1).qHead.getD 0) (s.stream x.1).ring x.2.slot)

/-- R56, R57: the record a touch makes of the one it finds. -/
def State.madeBy (s : State) (x : StreamTouch) : SegRecord :=
  accountInto (s.foundBy x) (s.stream x.1).active.segLen x.2.count x.2.sum s.time.now

/-- R58: a touch is TORN. -/
def State.tears (s : State) (x : StreamTouch) : Bool := releasedAny (s.foundBy x)

/-- R55 to R58: a touched segment is accounted. -/
def State.accountAt (s : State) (x : StreamTouch) : State := s.accountTouch x.1 x.2

theorem accountAt_eq (s : State) (x : StreamTouch) :
    s.accountAt x =
      let s1 := s.withSegs (storeSeg s.segs (s.recordOf x) (s.madeBy x))
      if s.tears x then (s1.latch x.1 .torn).count x.1 .torn else s1 := rfl

theorem latch_count_torn_stream (s : State) (i m : StreamId) :
    ((s.latch i .torn).count i .torn).stream m = if m = i then (s.stream i).torn else s.stream m := by
  rw [count_stream, latch_stream, if_pos rfl]
  split
  · rfl
  · next h => rw [latch_stream, if_neg h]

theorem accountAt_segs (s : State) (x : StreamTouch) :
    (s.accountAt x).segs = storeSeg s.segs (s.recordOf x) (s.madeBy x) := by
  rw [accountAt_eq]
  dsimp only
  split <;> rfl

theorem accountAt_stream (s : State) (x : StreamTouch) (m : StreamId) :
    (s.accountAt x).stream m =
      Stream.torn^[if x.1 = m ∧ s.tears x = true then 1 else 0] (s.stream m) := by
  rw [accountAt_eq]
  dsimp only
  split
  · next h =>
    rw [latch_count_torn_stream]
    by_cases hm : m = x.1
    · subst hm
      simp [h]
    · simp [hm, Ne.symm hm]
  · next h => simp [h]

/-- What TORN leaves of a stream, an accounting leaves. -/
theorem accountAt_stream_keeps {α : Type} (f : Stream → α) (hf : ∀ st : Stream, f st.torn = f st) (s : State)
    (x : StreamTouch) (m : StreamId) : f ((s.accountAt x).stream m) = f (s.stream m) := by
  rw [accountAt_stream, iterate_torn_keeps f hf]

theorem mem_accountAt_updates (s : State) (x : StreamTouch) (r : RecordId) :
    r ∈ (s.accountAt x).status.updates ↔ r ∈ s.status.updates ∨ (s.tears x = true ∧ r = .stream x.1) := by
  rw [accountAt_eq]
  dsimp only
  split
  · next h => simp [h]
  · next h => simp [h]

/-- The accounting of a touch changes the records, the streams and the pending update set alone. -/
theorem accountAt_frame (s : State) (x : StreamTouch) :
    s.accountAt x =
      { s with
        segs := (s.accountAt x).segs, streams := (s.accountAt x).streams
        status := { s.status with updates := (s.accountAt x).status.updates } } := by
  rw [accountAt_eq]
  dsimp only
  split <;> rfl

/-! ### Several touched segments -/

/-- R55 to R58: `t` follows `s` by the accounting of touches of different segments: each makes its record of the one it
finds in `s`, and its stream counts it where it is TORN. -/
structure Accounted (s t : State) (l : List StreamTouch) : Prop where
  made : ∀ x ∈ l, lookupSeg t.segs (s.recordOf x) = s.madeBy x
  others : ∀ n, (∀ x ∈ l, n ≠ s.recordOf x) → lookupSeg t.segs n = lookupSeg s.segs n
  stream : ∀ m, t.stream m = Stream.torn^[l.countP fun x => decide (x.1 = m) && s.tears x] (s.stream m)
  frame : t =
    { s with segs := t.segs, streams := t.streams, status := { s.status with updates := t.status.updates } }
  updates : ∀ r, r ∈ t.status.updates ↔ r ∈ s.status.updates ∨ ∃ x ∈ l, s.tears x = true ∧ r = .stream x.1

theorem recordOf_accountAt (s : State) (x y : StreamTouch) : (s.accountAt x).recordOf y = s.recordOf y := by
  have hcarve : (s.accountAt x).carve = s.carve := by rw [accountAt_frame]
  have hactive := accountAt_stream_keeps (·.active) (fun _ => rfl) s x y.1
  simp only [State.recordOf, State.recordIndex, hcarve, hactive]

theorem foundBy_accountAt {s : State} {x y : StreamTouch} (h : s.recordOf y ≠ s.recordOf x) :
    (s.accountAt x).foundBy y = s.foundBy y := by
  have hqHead := accountAt_stream_keeps (·.qHead) (fun _ => rfl) s x y.1
  have hring := accountAt_stream_keeps (·.ring) (fun _ => rfl) s x y.1
  simp only [State.foundBy, recordOf_accountAt, accountAt_segs, lookupSeg_storeSeg, h, if_false, hqHead, hring]

theorem madeBy_accountAt {s : State} {x y : StreamTouch} (h : s.recordOf y ≠ s.recordOf x) :
    (s.accountAt x).madeBy y = s.madeBy y := by
  have htime : (s.accountAt x).time = s.time := by rw [accountAt_frame]
  have hactive := accountAt_stream_keeps (·.active) (fun _ => rfl) s x y.1
  simp only [State.madeBy, foundBy_accountAt h, hactive, htime]

theorem tears_accountAt {s : State} {x y : StreamTouch} (h : s.recordOf y ≠ s.recordOf x) :
    (s.accountAt x).tears y = s.tears y := congrArg releasedAny (foundBy_accountAt h)

/-- Touches of different segments are accounted each on its own. -/
theorem accounted_foldl (l : List StreamTouch) (s : State)
    (hl : l.Pairwise fun x y => s.recordOf x ≠ s.recordOf y) : Accounted s (l.foldl State.accountAt s) l := by
  induction l generalizing s with
  | nil => exact ⟨nofun, fun _ _ => rfl, fun _ => rfl, rfl, by simp⟩
  | cons x l ih =>
    obtain ⟨hx, hl⟩ := List.pairwise_cons.1 hl
    obtain ⟨made, others, stream, frame, updates⟩ :=
      ih (s.accountAt x) (by simpa only [recordOf_accountAt] using hl)
    simp only [recordOf_accountAt, accountAt_segs, lookupSeg_storeSeg] at made others
    have hfound : ∀ y ∈ l, s.recordOf y ≠ s.recordOf x := fun y hy => (hx y hy).symm
    have htears : ∀ y ∈ l, (s.accountAt x).tears y = s.tears y := fun y hy => tears_accountAt (hfound y hy)
    refine ⟨fun y hy => ?_, fun n hn => ?_, fun m => ?_, ?_, fun r => ?_⟩
    · rcases List.mem_cons.1 hy with rfl | hy
      · exact (others _ hx).trans (if_pos rfl)
      · exact (made y hy).trans (madeBy_accountAt (hfound y hy))
    · obtain ⟨hnx, hnl⟩ := List.forall_mem_cons.1 hn
      exact (others n hnl).trans (if_neg hnx)
    · have hcount : (l.countP fun y => decide (y.1 = m) && (s.accountAt x).tears y) =
          l.countP fun y => decide (y.1 = m) && s.tears y :=
        List.countP_congr fun y hy => by rw [htears y hy]
      rw [List.foldl_cons, stream, hcount, accountAt_stream, ← Function.iterate_add_apply, List.countP_cons]
      simp only [Bool.and_eq_true, decide_eq_true_eq]
    · rw [List.foldl_cons, frame, accountAt_frame]
    · rw [List.foldl_cons, updates, mem_accountAt_updates, or_assoc]
      simp only [List.mem_cons, exists_eq_or_imp]
      refine or_congr_right (or_congr_right ?_)
      exact exists_congr fun y => and_congr_right fun hy => by rw [htears y hy]

end Sys2Proof.Machine
end

-- A fill write with payload bytes in active windows (R53 to R58, R140).
section
namespace Sys2Proof.Machine

open Sys2Proof

/-! ### The touches of a write in all active windows -/

/-- R9: the active states. -/
theorem isActive_iff (x : StreamState) :
    x.isActive = true ↔ x = .aligning ∨ x = .armed ∨ x = .running ∨ x = .draining := by
  cases x <;> simp [StreamState.isActive]

/-- R9: an active stream is not IDLE. -/
theorem ne_idle_of_isActive {x : StreamState} (h : x.isActive = true) : x ≠ .idle := by
  rintro rfl; cases h

/-- R54: the touches of a write in a stream's window, where the stream is active. -/
def State.touchedIn (s : State) (a : Nat) (d : List Byte) (i : StreamId) : List StreamTouch :=
  if (s.stream i).state.isActive then (touches (s.stream i) a d).map fun t => (i, t) else []

/-- R54: the touches of a write in the active windows, in the order they are accounted. -/
def State.touched (s : State) (a : Nat) (d : List Byte) : List StreamTouch :=
  (List.finRange 24).flatMap (s.touchedIn a d)

theorem mem_touchedIn {s : State} {a : Nat} {d : List Byte} {i : StreamId} {x : StreamTouch} :
    x ∈ s.touchedIn a d i ↔ (s.stream i).state.isActive = true ∧ x.2 ∈ touches (s.stream i) a d ∧ x.1 = i := by
  obtain ⟨m, t⟩ := x
  unfold State.touchedIn
  split
  · next h => simp [h, eq_comm]
  · next h => simp [h]

theorem mem_touched {s : State} {a : Nat} {d : List Byte} {x : StreamTouch} :
    x ∈ s.touched a d ↔ (s.stream x.1).state.isActive = true ∧ x.2 ∈ touches (s.stream x.1) a d := by
  simp [State.touched, mem_touchedIn]

/-- A list made stream by stream to which one stream alone brings anything. -/
theorem flatMap_finRange_of_only {α : Type} {f : StreamId → List α} (i : StreamId) (h : ∀ m, m ≠ i → f m = []) :
    (List.finRange 24).flatMap f = f i := by
  obtain ⟨l, l', heq⟩ := List.append_of_mem (List.mem_finRange i)
  have hnodup := heq ▸ List.nodup_finRange 24
  rw [List.nodup_middle, List.nodup_cons, List.mem_append, not_or] at hnodup
  obtain ⟨⟨hl, hl'⟩, _⟩ := hnodup
  rw [heq, List.flatMap_append, List.flatMap_cons,
    List.flatMap_eq_nil_iff.2 fun m hm => h m fun e => hl (e ▸ hm),
    List.flatMap_eq_nil_iff.2 fun m hm => h m fun e => hl' (e ▸ hm), List.nil_append, List.append_nil]

theorem filter_touched (s : State) (a : Nat) (d : List Byte) (i : StreamId) :
    (s.touched a d).filter (fun x => decide (x.1 = i)) = s.touchedIn a d i := by
  have hself : (s.touchedIn a d i).filter (fun x => decide (x.1 = i)) = s.touchedIn a d i :=
    List.filter_eq_self.2 fun x hx => decide_eq_true (mem_touchedIn.1 hx).2.2
  rw [State.touched, List.filter_flatMap, flatMap_finRange_of_only i, hself]
  intro m hm
  refine List.filter_eq_nil_iff.2 fun x hx => ?_
  rw [(mem_touchedIn.1 hx).2.2]
  simpa using hm

/-- What TORN leaves of a stream, the accounting of a write in a window leaves. -/
theorem accountWrite_stream_keeps {α : Type} (f : Stream → α) (hf : ∀ st : Stream, f st.torn = f st) (s : State)
    (i m : StreamId) (a : Nat) (d : List Byte) : f ((s.accountWrite i a d).stream m) = f (s.stream m) :=
  foldl_keeps (g := fun u => f (u.stream m)) (fun u t => accountAt_stream_keeps f hf u (i, t) m) _ s

/-- R54: the accounting of a write in some streams' windows, from a state whose streams stand in the states and
have the touches of those of `s`. -/
theorem foldl_accountWrite {s : State} {a : Nat} {d : List Byte} (is : List StreamId) (u : State)
    (hstate : ∀ m, (u.stream m).state = (s.stream m).state)
    (htouches : ∀ m, touches (u.stream m) a d = touches (s.stream m) a d) :
    is.foldl (fun u i => if (u.stream i).state.isActive then u.accountWrite i a d else u) u =
      (is.flatMap (s.touchedIn a d)).foldl State.accountAt u := by
  induction is generalizing u with
  | nil => rfl
  | cons i is ih =>
    rw [List.foldl_cons, List.flatMap_cons, List.foldl_append, hstate, State.touchedIn]
    split
    · have hwrite : u.accountWrite i a d =
          ((touches (s.stream i) a d).map fun t => (i, t)).foldl State.accountAt u := by
        rw [State.accountWrite, htouches, List.foldl_map]
        rfl
      rw [← hwrite]
      exact ih _
        (fun m => (accountWrite_stream_keeps (·.state) (fun _ => rfl) u i m a d).trans (hstate m))
        (fun m => (accountWrite_stream_keeps (touches · a d) (touches_torn · a d) u i m a d).trans (htouches m))
    · exact ih u hstate htouches

/-- R54, R140: a write is accounted touch by touch. -/
theorem accountAll_eq (s : State) (a : Nat) (d : List Byte) :
    s.accountAll a d = (s.touched a d).foldl State.accountAt s :=
  foldl_accountWrite _ s (fun _ => rfl) fun _ => rfl

/-! ### The class of a write -/

theorem hasPayload_of_mem_touched {s : State} {a : Nat} {d : List Byte} {x : StreamTouch} (h : x ∈ s.touched a d) :
    s.hasPayload a d = true := by
  obtain ⟨hactive, ht⟩ := mem_touched.1 h
  simp only [State.hasPayload, List.any_eq_true, Bool.and_eq_true, Bool.not_eq_true', List.isEmpty_eq_false_iff]
  exact ⟨x.1, List.mem_finRange _, hactive, List.ne_nil_of_mem ht⟩

/-- R140: a write none of whose bytes lies in a command word is no command write. -/
theorem touchesCommand_eq_false {s : State} {a len : Nat}
    (h : ∀ n, n < len → ∀ w, a + n < s.commandAddr w ∨ s.commandAddr w + 8 ≤ a + n) :
    s.touchesCommand a len = false := by
  refine List.any_eq_false.2 fun w _ hw => ?_
  simp only [overlaps, Bool.and_eq_true, decide_eq_true_eq] at hw
  obtain ⟨⟨⟨hlo, hhi⟩, hlen⟩, _⟩ := hw
  have := h (s.commandAddr w - a) (by omega) w
  omega

/-- R138, R139: a write inside a window that is clear of the control region is no command write. -/
theorem touchesCommand_of_window {s : State} {a len : Nat} {w : Window} (hlo : w.base ≤ a)
    (hhi : a + len ≤ w.base + w.len) (hclear : overlaps w.base w.len s.controlBase 65536 = false) :
    s.touchesCommand a len = false := by
  refine touchesCommand_eq_false fun n hn c => ?_
  have hoff : commandOffset c + 8 ≤ 65536 := by cases c <;> decide
  have haddr : s.commandAddr c = s.controlBase + commandOffset c := rfl
  simp only [overlaps, Bool.and_eq_false_iff, decide_eq_false_iff_not] at hclear
  omega

/-- R140, R146: a fill write that has been accounted stands in the fill forwarder. -/
def State.filled (s u : State) (addr : Addr) (d : List Byte) : State :=
  (settle s u).withPorts
    { s.ports with fillForwarder := s.ports.fillForwarder ++ [⟨addr, .write d, .accounted⟩] }

/-- R54, R140, R146: the command that presents a write with payload bytes in active windows. -/
theorem exec_fill_accounted {s : State} {addr : Addr} {d : List Byte} {x : StreamTouch} (hr : s.inReset = false)
    (hl : s.ports.fillForwarder.length < 64) (hcmd : s.touchesCommand addr.toNat d.length = false)
    (hx : x ∈ s.touched addr.toNat d) :
    exec (.fillRequest addr (.write d)) s =
      .next (s.filled ((s.touched addr.toNat d).foldl State.accountAt s) addr d) := by
  have hcls : s.fillClass addr.toNat (.write d) = .accounted := by
    simp [State.fillClass, hcmd, hasPayload_of_mem_touched hx]
  have hports : ((s.touched addr.toNat d).foldl State.accountAt s).ports = s.ports :=
    foldl_keeps (g := State.ports) (fun u y => by rw [accountAt_frame]) _ s
  have haccept : (s.inReset || decide (64 ≤ s.ports.fillForwarder.length)) = false := by simp [hr, hl]
  show Host.Outcome.next (if _ then s else s.takeFill addr (.write d)) = _
  rw [haccept, if_neg Bool.false_ne_true, State.takeFill, hcls]
  simp only [State.fillAction, event_live hr, settle_ports, accountAll_eq, hports, State.filled]

/-! ### What an accounted write leaves -/

section Filled

variable {s u : State} {l : List StreamTouch} (h : Accounted s u l) (addr : Addr) (d : List Byte)
include h

theorem filled_frame : s.filled u addr d =
    { s with
      segs := (s.filled u addr d).segs, streams := (s.filled u addr d).streams
      status := (s.filled u addr d).status
      ports := { s.ports with
        fillForwarder := s.ports.fillForwarder ++ [{ addr := addr, acc := .write d, cls := .accounted }] } } := by
  rw [State.filled, settle_frame, h.frame]
  rfl

theorem filled_statusBecomes {queued : List RecordId}
    (hq : ∀ r, r ∈ queued ↔ ∃ x ∈ l, s.tears x = true ∧ r = .stream x.1) :
    StatusBecomes s (s.filled u addr d) s.status.events s.status.counters queued := by
  have hstatus : u.status = { s.status with updates := u.status.updates } := congrArg State.status h.frame
  obtain ⟨hevents, hcounters, hmask, hsummary, hcloses⟩ :=
    statusBecomes_settle hstatus (queued := queued) fun r => by rw [hq]; exact h.updates r
  exact ⟨hevents, hcounters, hmask, hsummary, hcloses⟩

end Filled

/-- R55 to R57: a single touch makes its own record alone. -/
theorem Accounted.lookup_of_one {s u : State} {x : StreamTouch} (h : Accounted s u [x]) (n : Nat) :
    lookupSeg u.segs n = if n = s.recordOf x then s.madeBy x else lookupSeg s.segs n := by
  split
  · next hn => exact hn ▸ h.made x (List.mem_singleton_self x)
  · next hn => exact h.others n fun y hy => List.mem_singleton.1 hy ▸ hn

/-- R58: a single touch changes its own stream alone, where it is TORN. -/
theorem Accounted.stream_of_one {s u : State} {x : StreamTouch} (h : Accounted s u [x]) (m : StreamId) :
    u.stream m = if m = x.1 ∧ s.tears x = true then (s.stream m).torn else s.stream m := by
  rw [h.stream, List.countP_singleton]
  simp only [Bool.and_eq_true, decide_eq_true_eq, eq_comm (a := x.1)]
  split <;> rfl

/-- Two states whose streams agree one by one have the same streams. -/
theorem streams_eq_of_stream {s t : State} (h : ∀ i, t.stream i = s.stream i) : t.streams = s.streams :=
  Vector.ext fun i hi => h ⟨i, hi⟩

/-! ### One segment -/

/-- R55: a line among the R from q_head on is the one a write to its slot belongs to. -/
theorem writeLine_eq {qHead ring line : Nat} (hlo : qHead ≤ line) (hhi : line < qHead + ring) :
    writeLine qHead ring (line % ring) = line := by
  obtain ⟨e, rfl⟩ := Nat.exists_eq_add_of_le hlo
  have he : e < ring := Nat.lt_of_add_lt_add_left hhi
  have hq : qHead % ring < ring := Nat.mod_lt _ (by omega)
  rw [writeLine, Nat.add_mod_eq_ite, Nat.mod_eq_of_lt he]
  split
  · rw [show qHead % ring + e - ring + ring - qHead % ring = e by omega, Nat.mod_eq_of_lt he]
  · rw [show qHead % ring + e + ring - qHead % ring = e + ring by omega, Nat.add_mod_right, Nat.mod_eq_of_lt he]

/-- R139: a stream that is active has its window laid out, where the windows are as R4 and R11 say. -/
theorem laidOut_of_windowsApart {s : State} (hw : WindowsApart s) {i : StreamId}
    (hactive : (s.stream i).state.isActive = true)
    (hline : (s.stream i).active.segsPerLine * (s.stream i).active.segStride ≤ (s.stream i).active.lineStride)
    (hseg : (s.stream i).active.segLen ≤ (s.stream i).active.segStride) : (s.stream i).LaidOut := by
  refine ⟨?_, hline, hseg⟩
  rw [hw.1 i, if_neg (ne_idle_of_isActive hactive)]

theorem window_of_payloadSpot {st : Stream} {x : Nat} {q : Nat × Nat} (h : st.payloadSpot x = some q) :
    ∃ w, st.window = some w ∧ w.base ≤ x ∧ x < w.base + w.len := by
  unfold Stream.payloadSpot at h
  split at h
  · cases h
  · next w hw =>
    simp only [Option.ite_none_right_eq_some, Bool.and_eq_true, decide_eq_true_eq, Window.has] at h
    obtain ⟨⟨⟨hin, _⟩, _⟩, _⟩ := h
    exact ⟨w, hw, hin⟩

/-- R11: an address of a window holds no payload byte of another stream's. -/
theorem payloadSpot_eq_none {s : State} (hw : WindowsApart s) {i m : StreamId} (hm : m ≠ i) {x : Nat} {q : Nat × Nat}
    (h : (s.stream i).payloadSpot x = some q) : (s.stream m).payloadSpot x = none := by
  refine Option.eq_none_iff_forall_not_mem.2 fun q' h' => ?_
  obtain ⟨w, hwi, hlo, hhi⟩ := window_of_payloadSpot h
  obtain ⟨w', hwm, hlo', hhi'⟩ := window_of_payloadSpot h'
  have hapart := hw.2.2 m i w' w hm hwm hwi
  simp only [overlaps, Bool.and_eq_false_iff, decide_eq_false_iff_not] at hapart
  omega

theorem touches_of_no_payload {st : Stream} {x : Nat} {d : List Byte}
    (h : ∀ n, n < d.length → st.payloadSpot (x + n) = none) : touches st x d = [] := by
  induction d generalizing x with
  | nil => rfl
  | cons b d ih =>
    simp only [touches, show st.payloadSpot x = none from h 0 (Nat.succ_pos _)]
    refine ih fun n hn => ?_
    rw [Nat.add_right_comm]
    exact h (n + 1) (Nat.succ_lt_succ hn)

/-- R54: a write inside one segment's payload is one touch. -/
theorem touches_of_one_segment {st : Stream} {x j k : Nat} {d : List Byte} (hd : d ≠ [])
    (h : ∀ n, n < d.length → st.payloadSpot (x + n) = some (j, k)) :
    touches st x d = [⟨j, k, d.length, byteSum d⟩] := by
  induction d generalizing x with
  | nil => exact absurd rfl hd
  | cons b d ih =>
    simp only [touches, show st.payloadSpot x = some (j, k) from h 0 (Nat.succ_pos _)]
    cases d with
    | nil => simp [touches, addTouch, byteSum]
    | cons b' d =>
      rw [ih (List.cons_ne_nil _ _) fun n hn => by rw [Nat.add_right_comm]; exact h (n + 1) (Nat.succ_lt_succ hn)]
      exact addTouch_joins b _ []

/-- R54: a write inside the payload of one segment of an active window has that touch alone. -/
theorem touched_of_one_segment {s : State} (hw : WindowsApart s) {i : StreamId}
    (hactive : (s.stream i).state.isActive = true) {a j k : Nat} {d : List Byte} (hd : d ≠ [])
    (h : ∀ n, n < d.length → (s.stream i).payloadSpot (a + n) = some (j, k)) :
    s.touched a d = [(i, ⟨j, k, d.length, byteSum d⟩)] := by
  rw [State.touched, flatMap_finRange_of_only i fun m hm => ?_, State.touchedIn, if_pos hactive,
    touches_of_one_segment hd h, List.map_singleton]
  rw [State.touchedIn, touches_of_no_payload fun n hn => payloadSpot_eq_none hw hm (h n hn), List.map_nil, ite_self]

/-! ### Several segments -/

/-- R46, R47: the carve ascends over any distance. -/
theorem carveBase_le {s : State} (h : CarveAscending s) {a b : Nat} (hab : a ≤ b) (hb : b ≤ 24) :
    carveBase s.carve a ≤ carveBase s.carve b := by
  induction b, hab using Nat.le_induction with
  | base => exact Nat.le_refl _
  | succ b _ ih => exact (ih (by omega)).trans (h b (by omega))

/-- R48: the record of a segment of a window lies in its stream's part of the carve. -/
theorem recordIndex_lt {s : State} (hrings : RingsRight s) {i : StreamId} (hi : (s.stream i).state ≠ .idle)
    {j k : Nat} (hj : j < (s.stream i).ring) (hk : k < (s.stream i).active.segsPerLine) :
    s.recordIndex i j k < carveBase s.carve (i.val + 1) := by
  obtain ⟨_, _, _, hring⟩ := hrings i hi
  have hslot : (j + 1) * (s.stream i).active.segsPerLine ≤ (s.stream i).ring * (s.stream i).active.segsPerLine :=
    Nat.mul_le_mul_right _ hj
  rw [Nat.succ_mul] at hslot
  rw [State.recordIndex]
  omega

theorem le_recordIndex (s : State) (i : StreamId) (j k : Nat) : carveBase s.carve i.val ≤ s.recordIndex i j k := by
  rw [State.recordIndex]; omega

/-- R46, R48: records of different streams are different. -/
theorem recordIndex_ne_of_lt {s : State} (hcarve : CarveAscending s) (hrings : RingsRight s) {i i' : StreamId}
    (hlt : i < i') (hi : (s.stream i).state ≠ .idle) {j k : Nat} (hj : j < (s.stream i).ring)
    (hk : k < (s.stream i).active.segsPerLine) (j' k' : Nat) : s.recordIndex i j k ≠ s.recordIndex i' j' k' := by
  have hparts : carveBase s.carve (i.val + 1) ≤ carveBase s.carve i'.val := carveBase_le hcarve hlt (by omega)
  have := recordIndex_lt hrings hi hj hk
  have := le_recordIndex s i' j' k'
  omega

/-- R48: records of different segments of a stream are different. -/
theorem recordIndex_inj {s : State} {i : StreamId} {j k j' k' : Nat} (hk : k < (s.stream i).active.segsPerLine)
    (hk' : k' < (s.stream i).active.segsPerLine) (h : s.recordIndex i j k = s.recordIndex i j' k') :
    (j, k) = (j', k') := by
  have hS : 0 < (s.stream i).active.segsPerLine := by omega
  have hsum : k + (s.stream i).active.segsPerLine * j = k' + (s.stream i).active.segsPerLine * j' := by
    simp only [State.recordIndex, Nat.mul_comm _ (s.stream i).active.segsPerLine] at h
    omega
  have hseg : k = k' := by
    have := congrArg (· % (s.stream i).active.segsPerLine) hsum
    simpa [Nat.mod_eq_of_lt hk, Nat.mod_eq_of_lt hk'] using this
  subst hseg
  rw [Nat.eq_of_mul_eq_mul_left hS (Nat.add_left_cancel hsum)]

section Segments

variable {s : State} (hw : WindowsApart s) (hrings : RingsRight s)

include hw hrings in
theorem laidOut_of_ringsRight {i : StreamId} (h : (s.stream i).state.isActive = true) : (s.stream i).LaidOut := by
  obtain ⟨_, hseg, hline, _⟩ := hrings i (ne_idle_of_isActive h)
  exact laidOut_of_windowsApart hw h hline hseg

include hw hrings in
/-- R53, R54: the touches of a write are those of the segments of the active windows it has a byte of. -/
theorem mem_touched_iff {a : Nat} {d : List Byte} {x : StreamTouch} :
    x ∈ s.touched a d ↔ (s.stream x.1).state.isActive = true ∧ x.2.slot < (s.stream x.1).ring ∧
      x.2.seg < (s.stream x.1).active.segsPerLine ∧
      bytesInSegment (s.stream x.1).active a d x.2.slot x.2.seg ≠ [] ∧
      x.2 = touchOf (s.stream x.1).active a d x.2.slot x.2.seg := by
  rw [mem_touched]
  exact and_congr_right fun h => mem_touches_iff (laidOut_of_ringsRight hw hrings h) a d x.2

include hw hrings in
/-- R46, R48, R54: no two touches of a write are of one record. -/
theorem pairwise_recordOf_touched (hcarve : CarveAscending s) (a : Nat) (d : List Byte) :
    (s.touched a d).Pairwise fun x y => s.recordOf x ≠ s.recordOf y := by
  have hmem {x : StreamTouch} {i : StreamId} (hx : x ∈ s.touchedIn a d i) :
      x.1 = i ∧ (s.stream x.1).state.isActive = true ∧ x.2.slot < (s.stream x.1).ring ∧
        x.2.seg < (s.stream x.1).active.segsPerLine := by
    obtain ⟨hactive, ht, rfl⟩ := mem_touchedIn.1 hx
    obtain ⟨_, hj, hk, _⟩ := (mem_touched_iff hw hrings).1 (mem_touched.2 ⟨hactive, ht⟩)
    exact ⟨rfl, hactive, hj, hk⟩
  refine List.pairwise_flatMap.2 ⟨fun i _ => ?_, ?_⟩
  · have hspots : (s.touchedIn a d i).Pairwise fun x y => x.2.spot ≠ y.2.spot := by
      unfold State.touchedIn
      split
      · next h =>
        have hnodup := nodup_spots_touches (laidOut_of_ringsRight hw hrings h) a d
        exact List.pairwise_map.2 (List.pairwise_map.1 hnodup)
      · exact List.Pairwise.nil
    refine hspots.imp_of_mem fun {x y} hx hy hne heq => hne ?_
    obtain ⟨rfl, _, _, hkx⟩ := hmem hx
    obtain ⟨hyi, _, _, hky⟩ := hmem hy
    rw [hyi] at hky
    rw [State.recordOf, State.recordOf, hyi] at heq
    exact recordIndex_inj hkx hky heq
  · refine (List.pairwise_lt_finRange 24).imp fun {i m} hlt x hx y hy => ?_
    obtain ⟨rfl, hactive, hj, hk⟩ := hmem hx
    obtain ⟨rfl, _⟩ := hmem hy
    exact recordIndex_ne_of_lt hcarve hrings hlt (ne_idle_of_isActive hactive) hj hk _ _

/-- R55: the record a touch finds, by its slot and segment. -/
theorem foundBy_eq_recordFound (s : State) (i : StreamId) (t : Touch) :
    s.foundBy (i, t) =
      recordFound (lookupSeg s.segs (carveBase s.carve i.val + t.slot * (s.stream i).active.segsPerLine + t.seg))
        (lineInSlot ((s.stream i).qHead.getD 0) (s.stream i).ring t.slot) := rfl

/-- R56, R57: the record that the bytes of a segment make. -/
theorem madeBy_touchOf (s : State) (i : StreamId) (a : Nat) (d : List Byte) (j k : Nat) :
    s.madeBy (i, touchOf (s.stream i).active a d j k) =
      recordAfter
        (recordFound (lookupSeg s.segs (carveBase s.carve i.val + j * (s.stream i).active.segsPerLine + k))
          (lineInSlot ((s.stream i).qHead.getD 0) (s.stream i).ring j))
        (s.stream i).active.segLen (bytesInSegment (s.stream i).active a d j k) s.time.now :=
  accountInto_eq_recordAfter _ _ _ _

/-- R58: the line that a segment's record is found to hold has been released on some path. -/
def State.releasedAt (s : State) (i : StreamId) (j k : Nat) : Bool :=
  decide ((recordFound (lookupSeg s.segs (carveBase s.carve i.val + j * (s.stream i).active.segsPerLine + k))
    (lineInSlot ((s.stream i).qHead.getD 0) (s.stream i).ring j)).released ≠ ⟨false, false⟩)

theorem tears_eq_releasedAt (s : State) (i : StreamId) (t : Touch) :
    s.tears (i, t) = s.releasedAt i t.slot t.seg := by
  rw [Bool.eq_iff_iff, State.releasedAt, decide_eq_true_eq, ← foundBy_eq_recordFound]
  exact releasedAny_iff _

include hw hrings in
/-- R58: a stream's TORN touches, counted over the segments of its window. -/
theorem countP_tears_touched (a : Nat) (d : List Byte) (i : StreamId) :
    ((s.touched a d).countP fun x => decide (x.1 = i) && s.tears x) =
      if (s.stream i).state.isActive then tornCount s i a d else 0 := by
  have hfilter : ((s.touched a d).countP fun x => decide (x.1 = i) && s.tears x) =
      (s.touchedIn a d i).countP s.tears := by
    rw [← filter_touched, List.countP_filter]
    simp only [Bool.and_comm]
  rw [hfilter, State.touchedIn]
  split
  · next h =>
    rw [List.countP_map]
    simp only [Function.comp_def, tears_eq_releasedAt]
    exact countP_touches (laidOut_of_ringsRight hw hrings h) a d (s.releasedAt i)
  · rfl

include hw hrings in
/-- R58: a stream has a TORN touch where the segments of its window say so. -/
theorem exists_tears_iff (a : Nat) (d : List Byte) (i : StreamId) :
    (∃ x ∈ s.touched a d, s.tears x = true ∧ x.1 = i) ↔
      (s.stream i).state.isActive = true ∧ 0 < tornCount s i a d := by
  calc (∃ x ∈ s.touched a d, s.tears x = true ∧ x.1 = i)
      ↔ 0 < (s.touched a d).countP fun x => decide (x.1 = i) && s.tears x := by
        simp [List.countP_pos_iff, and_comm]
    _ ↔ 0 < if (s.stream i).state.isActive then tornCount s i a d else 0 := by
        rw [countP_tears_touched hw hrings]
    _ ↔ _ := by split <;> simp [*]

end Segments

/-! ### The command -/

/-- R54 to R58: a write inside the payload of one segment of an active window, by the record it finds. -/
theorem fill_one_segment {s : State} {addr : Addr} {d : List Byte} {i : StreamId} {j k : Nat} (hr : s.inReset = false)
    (hl : s.ports.fillForwarder.length < 64) (hw : WindowsApart s) (hactive : (s.stream i).state.isActive = true)
    (hd : d ≠ [])
    (hspot : ∀ n, n < d.length → (s.stream i).payloadSpot (addr.toNat + n) = some (j, k)) :
    let x : StreamTouch := (i, ⟨j, k, d.length, byteSum d⟩)
    ∃ u, exec (.fillRequest addr (.write d)) s = .next (s.filled u addr d) ∧ Accounted s u [x] := by
  intro x
  have htouched : s.touched addr.toNat d = [x] := touched_of_one_segment hw hactive hd hspot
  have hlen : 0 < d.length := List.length_pos_of_ne_nil hd
  have hcmd : s.touchesCommand addr.toNat d.length = false := by
    obtain ⟨w, hwin, hlo, hhi⟩ := window_of_payloadSpot (hspot 0 hlen)
    obtain ⟨w', hwin', hlo', hhi'⟩ := window_of_payloadSpot (hspot (d.length - 1) (by omega))
    cases hwin.symm.trans hwin'
    exact touchesCommand_of_window hlo (by omega) (hw.2.1 i w hwin).2
  refine ⟨_, exec_fill_accounted (x := x) hr hl hcmd (by rw [htouched]; exact List.mem_singleton_self x), ?_⟩
  rw [htouched]
  exact accounted_foldl [x] s (List.pairwise_singleton _ x)

/-- Settles O46: a write is cut into touches of different records, each accounted on its own. -/
theorem fillWriteAccounted : Obligations.FillWriteAccounted := by
  constructor
  · intro addr d s i j k v line hr hl hw st p hstate hline hseg hj hk hd hv haddr hlo hhi hslot idx old found new torn
    have hactive : st.state.isActive = true := (isActive_iff _).2 hstate
    have hlaid : st.LaidOut := laidOut_of_windowsApart hw hactive hline hseg
    have hstart : addr.toNat = p.segStart j k + v := haddr
    have hspot : ∀ n, n < d.length → st.payloadSpot (addr.toNat + n) = some (j, k) := fun n hn =>
      have hin : p.InSegment (addr.toNat + n) j k := ⟨by omega, by omega⟩
      (payloadSpot_eq_some_iff hlaid _ j k).2 ⟨hj, hk, hin⟩
    obtain ⟨u, hexec, hacc⟩ := fill_one_segment hr hl hw hactive (List.ne_nil_of_length_pos hd) hspot
    let x : StreamTouch := (i, ⟨j, k, d.length, byteSum d⟩)
    have hfound : s.foundBy x = found := by
      show rearmFor old (writeLine (st.qHead.getD 0) st.ring j) = found
      rw [← hslot, writeLine_eq hlo hhi]
      rfl
    have hmade : s.madeBy x = new := by
      rw [State.madeBy, hfound]
      exact accountInto_eq_recordAfter ..
    have htorn : s.tears x = true ↔ torn := by
      rw [State.tears, hfound]
      exact releasedAny_iff found
    refine ⟨_, hexec, filled_frame hacc addr d, fun n => ?_, fun ht => ⟨fun m => ?_, ?_⟩, fun ht => ⟨?_, ?_⟩⟩
    · exact hmade ▸ hacc.lookup_of_one n
    · refine (hacc.stream_of_one m).trans ?_
      by_cases hm : m = i
      · subst hm
        rw [if_pos ⟨rfl, htorn.2 ht⟩, if_pos rfl]
        rfl
      · rw [if_neg fun h => hm h.1, if_neg hm]
    · exact filled_statusBecomes hacc addr d fun r => by simp [x, htorn.2 ht]
    · exact streams_eq_of_stream fun m => (hacc.stream_of_one m).trans (if_neg fun h => ht (htorn.1 h.2))
    · exact filled_statusBecomes hacc addr d fun r => by simp [x, mt htorn.1 ht]
  · intro addr d s hr hl hw hcarve hrings hcmd active mine idx segment hsegment
    have hactive (i : StreamId) : (s.stream i).state.isActive = true ↔ active i := isActive_iff _
    have hmem {i : StreamId} {j k : Nat} (h : segment i j k) :
        (i, touchOf (s.stream i).active addr.toNat d j k) ∈ s.touched addr.toNat d := by
      obtain ⟨hi, hj, hk, hmine⟩ := h
      exact (mem_touched_iff hw hrings).2 ⟨(hactive i).2 hi, hj, hk, hmine, rfl⟩
    have hofMem {x : StreamTouch} (h : x ∈ s.touched addr.toNat d) : segment x.1 x.2.slot x.2.seg := by
      obtain ⟨hi, hj, hk, hmine, _⟩ := (mem_touched_iff hw hrings).1 h
      exact ⟨(hactive x.1).1 hi, hj, hk, hmine⟩
    have hnoWord : s.touchesCommand addr.toNat d.length = false := touchesCommand_eq_false fun n hn w =>
      hcmd n hn (commandOffset w) (by cases w <;> decide)
    obtain ⟨i, j, k, hijk⟩ := hsegment
    have hexec := exec_fill_accounted hr hl hnoWord (hmem hijk)
    have hacc := accounted_foldl _ s (pairwise_recordOf_touched hw hrings hcarve addr.toNat d)
    obtain ⟨u, hu⟩ : ∃ u, (s.touched addr.toNat d).foldl State.accountAt s = u := ⟨_, rfl⟩
    rw [hu] at hexec hacc
    have hstream (m : StreamId) : u.stream m =
        Stream.torn^[if (s.stream m).state.isActive then tornCount s m addr.toNat d else 0] (s.stream m) := by
      rw [hacc.stream, countP_tears_touched hw hrings]
    have htorn (m : StreamId) : (∃ x ∈ s.touched addr.toNat d, s.tears x = true ∧ x.1 = m) ↔
        active m ∧ 0 < tornCount s m addr.toNat d :=
      (exists_tears_iff hw hrings addr.toNat d m).trans (and_congr_left' (hactive m))
    refine ⟨s.filled u addr d, ((s.touched addr.toNat d).filter s.tears).map fun x => .stream x.1, hexec,
      filled_frame hacc addr d, fun i j k h => ?_, fun n hn => ?_, fun m hm hpos => ?_, fun m hm => ?_, fun r => ?_,
      filled_statusBecomes hacc addr d fun r => ?_⟩
    · rw [← madeBy_touchOf]
      exact hacc.made _ (hmem h)
    · exact hacc.others n fun x hx => hn _ _ _ (hofMem hx)
    · refine (hstream m).trans ?_
      rw [if_pos ((hactive m).2 hm), iterate_torn_of_pos hpos]
    · refine (hstream m).trans ?_
      split
      · next h =>
        rw [Nat.eq_zero_of_not_pos fun hpos => hm ⟨(hactive m).1 h, hpos⟩]
        rfl
      · rfl
    · simp only [← htorn, List.mem_map, List.mem_filter]
      constructor
      · rintro ⟨x, ⟨hx, ht⟩, rfl⟩
        exact ⟨x.1, rfl, x, hx, ht, rfl⟩
      · rintro ⟨_, rfl, x, hx, ht, rfl⟩
        exact ⟨x, ⟨hx, ht⟩, rfl⟩
    · simp only [List.mem_map, List.mem_filter, and_assoc, eq_comm]

end Sys2Proof.Machine
end

-- What the operations leave of the requests and decisions of the held reads (R65, R67).
section
namespace Sys2Proof.Machine

open Sys2Proof

/-- R67: an entry's request, position, phase and decision, without the marks of the Path Arbiter, the past-run mark and
the way of its answer. -/
def HeldRead.verdict (x : HeldRead) : HeldRead :=
  { x with pastRun := false, permit := none, deferred := false, answer := .undecided }

/-- What the held-read table holds of its entries' verdicts, and the next ticket. -/
def State.ledger (s : State) : List HeldRead × Nat := (s.gate.held.map HeldRead.verdict, s.gate.nextTicket)

theorem ledger_of_gate {s t : State} (h : t.gate = s.gate) : t.ledger = s.ledger := by rw [State.ledger, h]; rfl

/-- A change of an entry that keeps every verdict. -/
theorem updEntry_ledger (s : State) (u : Nat) (f : HeldRead → HeldRead) (h : ∀ x, (f x).verdict = x.verdict) :
    (s.updEntry u f).ledger = s.ledger := by
  have hmap : (s.updEntry u f).gate.held.map HeldRead.verdict = s.gate.held.map HeldRead.verdict := by
    simp only [State.updEntry, withGate_gate, List.map_map]
    refine List.map_congr_left fun x _ => ?_
    rw [Function.comp_apply]
    split
    · exact h x
    · rfl
  exact Prod.ext hmap rfl

section Ledger

variable (s : State)

@[simp] theorem updStream_ledger (i : StreamId) (f : Stream → Stream) : (s.updStream i f).ledger = s.ledger := rfl
@[simp] theorem updPath_ledger (p : Path) (f : PathState → PathState) : (s.updPath p f).ledger = s.ledger := rfl
@[simp] theorem withSegs_ledger (x : List (Nat × SegRecord)) : (s.withSegs x).ledger = s.ledger := rfl
@[simp] theorem withPorts_ledger (x : Ports) : (s.withPorts x).ledger = s.ledger := rfl
@[simp] theorem withStatus_ledger (x : Status) : (s.withStatus x).ledger = s.ledger := rfl
@[simp] theorem withDecoder_ledger (x : Decoder) : (s.withDecoder x).ledger = s.ledger := rfl
@[simp] theorem withLock_ledger (x : RefLock) : (s.withLock x).ledger = s.ledger := rfl
@[simp] theorem withRefRec_ledger (x : RefRecord) : (s.withRefRec x).ledger = s.ledger := rfl
@[simp] theorem withTime_ledger (x : TimeBase) : (s.withTime x).ledger = s.ledger := rfl
@[simp] theorem withCarve_ledger (x : Vector Nat 24) : (s.withCarve x).ledger = s.ledger := rfl
@[simp] theorem withTags_ledger (x : Vector TagEntry 64) : (s.withTags x).ledger = s.ledger := rfl
@[simp] theorem withPending_ledger (x : List Instr) : (s.withPending x).ledger = s.ledger := rfl
@[simp] theorem drawFree_ledger : s.drawFree.ledger = s.ledger := rfl

/-! #### Flags -/

@[simp] theorem queueRecord_ledger (r : RecordId) : (s.queueRecord r).ledger = s.ledger := rfl
@[simp] theorem latch_ledger (i : StreamId) (e : StreamEvent) : (s.latch i e).ledger = s.ledger := rfl
@[simp] theorem latchDevice_ledger (e : DeviceEvent) : (s.latchDevice e).ledger = s.ledger := rfl
@[simp] theorem count_ledger (i : StreamId) (c : StreamCounter) : (s.count i c).ledger = s.ledger := rfl
@[simp] theorem countDevice_ledger (c : DeviceCounter) : (s.countDevice c).ledger = s.ledger := rfl
@[simp] theorem clearStreamCounters_ledger (i : StreamId) : (s.clearStreamCounters i).ledger = s.ledger := rfl
@[simp] theorem clearDeviceCounters_ledger : s.clearDeviceCounters.ledger = s.ledger := rfl
@[simp] theorem setStreamState_ledger (i : StreamId) (x : StreamState) :
    (s.setStreamState i x).ledger = s.ledger := rfl
@[simp] theorem settle_ledger (b : State) : (settle b s).ledger = s.ledger := rfl

/-! #### Heads, meters and permit times -/

@[simp] theorem refreshHeads_ledger (i : StreamId) : (s.refreshHeads i).ledger = s.ledger := rfl
@[simp] theorem enterIdle_ledger (i : StreamId) : (s.enterIdle i).ledger = s.ledger := rfl
@[simp] theorem drainCheck_ledger (i : StreamId) : (s.drainCheck i).ledger = s.ledger :=
  ledger_of_gate (drainCheck_gate s i)
@[simp] theorem consume_ledger (i : StreamId) : (s.consume i).ledger = s.ledger := ledger_of_gate (consume_gate s i)
@[simp] theorem deferEntry_ledger (e : HeldRead) : (s.deferEntry e).ledger = s.ledger := by
  have hmark := updEntry_ledger s e.ticket (fun x => { x with deferred := true }) fun _ => rfl
  unfold State.deferEntry
  dsimp only
  split <;> simp [hmark]
@[simp] theorem testPermit_ledger (e : HeldRead) : (s.testPermit e).ledger = s.ledger := by
  have hpermit := fun q => updEntry_ledger s e.ticket (fun x => { x with permit := q }) fun _ => rfl
  unfold State.testPermit
  dsimp only
  split <;> simp [hpermit]
@[simp] theorem retestPermit_ledger (e : HeldRead) : (s.retestPermit e).ledger = s.ledger := by
  have hpermit := fun q => updEntry_ledger s e.ticket (fun x => { x with permit := q }) fun _ => rfl
  unfold State.retestPermit
  dsimp only
  split <;> simp [hpermit]
@[simp] theorem retestStream_ledger (i : StreamId) : (s.retestStream i).ledger = s.ledger :=
  foldl_keeps retestPermit_ledger _ _
@[simp] theorem chargeMeter_ledger (i : StreamId) (p : Path) : (s.chargeMeter i p).ledger = s.ledger :=
  foldl_keeps testPermit_ledger _ _
@[simp] theorem takeApply_ledger (i : StreamId) (f : Nat) : (s.takeApply i f).ledger = s.ledger := by
  unfold State.takeApply
  split
  · rfl
  · split <;> simp

/-! #### Echoes, margins and fill accounting -/

@[simp] theorem echoLost_ledger (p : Path) : (s.echoLost p).ledger = s.ledger := rfl
@[simp] theorem echoMakeRoom_ledger (p : Path) : (s.echoMakeRoom p).ledger = s.ledger := by
  unfold State.echoMakeRoom; split <;> rfl
@[simp] theorem echoPush_ledger (p : Path) (e : EchoEntry) : (s.echoPush p e).ledger = s.ledger := by
  simp [State.echoPush]
@[simp] theorem pairEcho_ledger (p : Path) (e : EchoEntry) : (s.pairEcho p e).ledger = s.ledger := by
  unfold State.pairEcho; dsimp only; split <;> rfl
@[simp] theorem echoLostTimes_ledger (p : Path) (n : Nat) : (s.echoLostTimes p n).ledger = s.ledger := by
  induction n generalizing s with
  | zero => rfl
  | succ n ih => exact ih (s.echoLost p)
@[simp] theorem echoStrobe_ledger (p : Path) (t : Tag) : (s.echoStrobe p t).ledger = s.ledger := by
  unfold State.echoStrobe
  split
  · rfl
  · split <;> simp
@[simp] theorem marginSample_ledger (i : StreamId) (m : Nat) : (s.marginSample i m).ledger = s.ledger := by
  unfold State.marginSample
  dsimp only
  split
  · rfl
  · split <;> rfl
@[simp] theorem accountTouch_ledger (i : StreamId) (t : Touch) : (s.accountTouch i t).ledger = s.ledger := by
  unfold State.accountTouch; dsimp only; split <;> rfl
@[simp] theorem accountWrite_ledger (i : StreamId) (a : Nat) (d : List Byte) :
    (s.accountWrite i a d).ledger = s.ledger := foldl_keeps (fun s t => accountTouch_ledger s i t) _ _
@[simp] theorem accountAll_ledger (a : Nat) (d : List Byte) : (s.accountAll a d).ledger = s.ledger := by
  refine foldl_keeps (fun s i => ?_) _ _
  dsimp only
  split <;> simp

/-! #### Forwarders and grants -/

@[simp] theorem sendReady_ledger (b : SendBody) : (s.sendReady b).ledger = s.ledger := rfl
@[simp] theorem forwardRead_ledger (r : Released) : (s.forwardRead r).ledger = s.ledger := by
  unfold State.forwardRead; split <;> rfl
@[simp] theorem unblock_ledger : s.unblock.ledger = s.ledger :=
  foldl_keeps (fun s (b : Blocked) => sendReady_ledger s (.released b.read)) _ _
@[simp] theorem grantSource_ledger (x : Source) : (s.grantSource x).ledger = s.ledger := by
  simp only [State.grantSource]; split <;> split <;> simp
@[simp] theorem memoryGrant_ledger : s.memoryGrant.ledger = s.ledger := by
  unfold State.memoryGrant; split <;> simp
@[simp] theorem decideGrant_ledger (e : HeldRead) (a : Assigned) : (s.decideGrant e a).2.ledger = s.ledger :=
  ledger_of_gate (Onward.decideGrant_gate s e a)
@[simp] theorem noteUnderrun_ledger (i : StreamId) (o : ReadOutcome) :
    (s.noteUnderrun i o).ledger = s.ledger := by
  unfold State.noteUnderrun; split <;> rfl
@[simp] theorem forwardGranted_ledger (e : HeldRead) (o : ReadOutcome) :
    (s.forwardGranted e o).ledger = s.ledger := by
  unfold State.forwardGranted; split <;> simp
@[simp] theorem handOff_ledger (e : HeldRead) (a : Assigned) (d : Decision) :
    (s.handOff e a d).ledger = s.ledger := by
  simp only [State.handOff]
  split
  · split
    · split <;> simp
    · simp
  · rfl

/-! #### Assignment -/

@[simp] theorem setDrop_ledger (i : StreamId) (p : Path) (d : Option Nat) :
    (s.setDrop i p d).ledger = s.ledger := rfl
@[simp] theorem advance_ledger (i : StreamId) (p : Path) (x : NextPos) :
    (s.advance i p x).ledger = s.ledger := rfl
@[simp] theorem noteLate_ledger (i : StreamId) (r : Nat) : (s.noteLate i r).ledger = s.ledger :=
  ledger_of_gate (noteLate_gate s i r)
@[simp] theorem noteSequence_ledger (i : StreamId) (p : Path) (m : Bool) :
    (s.noteSequence i p m).ledger = s.ledger := ledger_of_gate (noteSequence_gate s i p m)
@[simp] theorem endFrame_ledger (e : HeldRead) (n : Nat) : (s.endFrame e n).ledger = s.ledger :=
  ledger_of_gate (endFrame_gate s e n)
@[simp] theorem beginStall_ledger : s.beginStall.ledger = s.ledger := by
  unfold State.beginStall
  split
  · rw [countDevice_ledger, latchDevice_ledger]; rfl
  · rfl

/-! #### The Stream Controller -/

@[simp] theorem markHeldPast_ledger (i : StreamId) : (s.markHeldPast i).ledger = s.ledger := by
  refine Prod.ext ?_ rfl
  simp only [State.ledger, State.markHeldPast, withGate_gate, List.map_map]
  refine List.map_congr_left fun x _ => ?_
  rw [Function.comp_apply]
  split <;> rfl
@[simp] theorem initRecords_ledger (i : StreamId) : (s.initRecords i).ledger = s.ledger := rfl
@[simp] theorem markEchoPast_ledger (i : StreamId) : (s.markEchoPast i).ledger = s.ledger := rfl
@[simp] theorem armStream_ledger (i : StreamId) : (s.armStream i).ledger = s.ledger := by
  simp [State.armStream]
@[simp] theorem startFrame_ledger (i : StreamId) (x : FrameRec) : (s.startFrame i x).ledger = s.ledger := rfl
@[simp] theorem startFirstFrame_ledger (i : StreamId) : (s.startFirstFrame i).ledger = s.ledger := by
  unfold State.startFirstFrame
  split
  · split <;> simp
  · rfl
@[simp] theorem nextFrameStart_ledger (i : StreamId) : (s.nextFrameStart i).ledger = s.ledger := by
  unfold State.nextFrameStart
  split
  · split <;> simp
  · rfl
@[simp] theorem beginDrain_ledger (i : StreamId) : (s.beginDrain i).ledger = s.ledger := by
  simp [State.beginDrain]
@[simp] theorem actArm_ledger (i : StreamId) : (s.actArm i).2.ledger = s.ledger := by
  unfold State.actArm; split <;> simp
@[simp] theorem actApply_ledger (i : StreamId) : (s.actApply i).2.ledger = s.ledger := by
  unfold State.actApply
  dsimp only
  split
  · rfl
  · split <;> rfl

/-! #### The Reference Lock -/

@[simp] theorem setLockState_ledger (x : LockState) : (s.setLockState x).ledger = s.ledger := rfl
@[simp] theorem setEntryDeadline_ledger : s.setEntryDeadline.ledger = s.ledger := rfl
@[simp] theorem actLoadEpoch_ledger : s.actLoadEpoch.2.ledger = s.ledger := by
  simp only [State.actLoadEpoch]
  split
  · split <;> rfl
  · rfl
  · rfl
  · rfl
@[simp] theorem enableRef_ledger : s.enableRef.ledger = s.ledger := by
  unfold State.enableRef; dsimp only; split <;> rfl
@[simp] theorem disableRef_ledger : s.disableRef.ledger = s.ledger := by
  unfold State.disableRef; dsimp only; split <;> rfl
@[simp] theorem judgeAcquiring_ledger (err : Int) : (s.judgeAcquiring err).ledger = s.ledger := by
  unfold State.judgeAcquiring
  dsimp only
  generalize (if err.natAbs ≤ s.refRec.lockWindow then s.lock.good + 1 else 0) = good
  split <;> rfl
@[simp] theorem judgeLocked_ledger (err : Int) : (s.judgeLocked err).ledger = s.ledger := by
  unfold State.judgeLocked; split <;> rfl
@[simp] theorem newPulse_ledger (err e : Int) : (s.newPulse err e).ledger = s.ledger := by
  unfold State.newPulse
  split
  · rfl
  · split
    · rfl
    · exact judgeAcquiring_ledger (s.piPulse err) err
  · exact judgeLocked_ledger (s.piPulse err) err
  · rfl
@[simp] theorem refPulse_ledger : s.refPulse.ledger = s.ledger := by
  unfold State.refPulse
  split
  · rfl
  · rfl
  · dsimp only
    split <;> simp
@[simp] theorem pulseTimeout_ledger : s.pulseTimeout.ledger = s.ledger := by
  unfold State.pulseTimeout; split <;> rfl

/-! #### The Status Writer and the answers of memory -/

@[simp] theorem post_ledger : s.post.ledger = s.ledger := by
  unfold State.post
  split
  · next r _ _ _ => cases r <;> rfl
  · rfl
@[simp] theorem clearFlags_ledger (r : RecordId) (v : BitVec 64) : (s.clearFlags r v).ledger = s.ledger := by
  cases r <;> rfl
@[simp] theorem handEventWords_ledger (a n : Nat) (d : List Byte) : (s.handEventWords a n d).ledger = s.ledger :=
  foldl_keeps (fun s r => clearFlags_ledger s r _) _ _
@[simp] theorem returnFill_ledger (x : FillItem) (r : Response) : (s.returnFill x r).ledger = s.ledger := by
  unfold State.returnFill
  dsimp only
  split
  · simp
  · rfl
@[simp] theorem returnReleased_ledger (u : Nat) (r : Response) : (s.returnReleased u r).ledger = s.ledger := by
  have hanswer := updEntry_ledger s u (fun x => { x with answer := .returning r }) fun _ => rfl
  unfold State.returnReleased
  split
  · rfl
  · dsimp only
    split <;> simp [hanswer]
@[simp] theorem memoryReturn_ledger (n : Nat) (r : Response) : (s.memoryReturn n r).ledger = s.ledger := by
  unfold State.memoryReturn
  split
  · rfl
  · dsimp only
    split <;> simp

/-! #### Commands that reach no held read -/

@[simp] theorem endCommand_ledger (r : ResultCode) (f : CommandEcho → CommandEcho) :
    (s.endCommand r f).ledger = s.ledger := ledger_of_gate (endCommand_gate s r f)
@[simp] theorem noteClamp_ledger (c : Bool) : (s.noteClamp c).ledger = s.ledger :=
  ledger_of_gate (noteClamp_gate s c)
@[simp] theorem takeSelect_ledger (w : BitVec 64) : (s.takeSelect w).ledger = s.ledger := by
  unfold State.takeSelect; split <;> simp
@[simp] theorem takePartial_ledger (w : CommandWord) : (s.takePartial w).ledger = s.ledger := by
  unfold State.takePartial; split <;> simp
@[simp] theorem actPostDevice_ledger : s.actPostDevice.2.ledger = s.ledger := queueRecord_ledger s .device
@[simp] theorem actClear_ledger (n : Nat) : (s.actClear n).2.ledger = s.ledger := by
  unfold State.actClear
  split
  · rfl
  · split
    · rfl
    · split
      · exact (clearDeviceCounters_ledger _).trans (foldl_keeps (fun s i => clearStreamCounters_ledger s i) _ s)
      · rfl

end Ledger

end Sys2Proof.Machine
end

-- What a step does to the held-read table (R65, R67).
section
namespace Sys2Proof.Machine

open Sys2Proof

/-! ### What is decided stays decided -/

/-- Every entry of the ticket of `f` has the verdict of `f`. -/
def State.Shows (s : State) (f : HeldRead) : Prop :=
  ∀ x ∈ s.gate.held, x.ticket = f.ticket → x.verdict = f.verdict

/-- R67: no entry of the ticket has been decided: no FORWARDED entry that the table shows is of it. -/
def State.Undecided (s : State) (u : Nat) : Prop :=
  ∀ f : HeldRead, f.phase = .forwarded → s.Shows f → f.ticket ≠ u

theorem phase_of_verdict {x y : HeldRead} (h : y.verdict = x.verdict) : y.phase = x.phase :=
  (congrArg HeldRead.phase h :)

theorem ticket_of_verdict {x y : HeldRead} (h : y.verdict = x.verdict) : y.ticket = x.ticket :=
  (congrArg HeldRead.ticket h :)

/-- R67: an entry that is not FORWARDED is undecided. -/
theorem undecided_of_mem {s : State} {x : HeldRead} (hx : x ∈ s.gate.held) (h : x.phase ≠ .forwarded) :
    s.Undecided x.ticket := fun _ hf hshows hticket =>
  h ((phase_of_verdict (hshows x hx hticket.symm)).trans hf)

/-- Whether the table shows an entry depends on its verdicts. -/
theorem shows_iff_ledger (s : State) (f : HeldRead) :
    s.Shows f ↔ ∀ v ∈ s.ledger.1, v.ticket = f.ticket → v = f.verdict := by
  simp only [State.Shows, State.ledger, List.mem_map, forall_exists_index, and_imp, forall_apply_eq_imp_iff₂]
  rfl

theorem tickets_eq_ledger (s : State) : s.tickets = s.ledger.1.map (·.ticket) := by
  simp only [State.tickets, State.ledger, List.map_map]
  rfl

/-- R65, R67: a state that follows another by operations which neither add an entry nor take one out, and which leave
the verdict of every FORWARDED entry. -/
structure Lasting (s t : State) : Prop where
  tickets : t.tickets = s.tickets
  nextTicket : t.gate.nextTicket = s.gate.nextTicket
  shows : ∀ f : HeldRead, f.phase = .forwarded → s.Shows f → t.Shows f

namespace Lasting

variable {s t u : State}

theorem refl (s : State) : Lasting s s := ⟨rfl, rfl, fun _ _ => id⟩

theorem trans (h : Lasting s t) (h' : Lasting t u) : Lasting s u where
  tickets := h'.tickets.trans h.tickets
  nextTicket := h'.nextTicket.trans h.nextTicket
  shows f hf hs := h'.shows f hf (h.shows f hf hs)

theorem undecided (h : Lasting s t) {v : Nat} (hv : t.Undecided v) : s.Undecided v :=
  fun f hf hs => hv f hf (h.shows f hf hs)

/-- An operation that keeps every verdict. -/
theorem of_ledger (h : Lasting s t) (hl : u.ledger = t.ledger) : Lasting s u :=
  h.trans
    { tickets := by rw [tickets_eq_ledger, hl, ← tickets_eq_ledger]
      nextTicket := congrArg Prod.snd hl
      shows := fun _ _ hs => (shows_iff_ledger u _).2 (hl ▸ (shows_iff_ledger t _).1 hs) }

/-- A change of the table that keeps the tickets, and the verdict of each entry that was decided before. -/
theorem mapHeld (h : Lasting s t) (f : HeldRead → HeldRead) (hticket : ∀ x, (f x).ticket = x.ticket)
    (hverdict : ∀ x ∈ t.gate.held, x.phase = .forwarded → ¬s.Undecided x.ticket → (f x).verdict = x.verdict) :
    Lasting s (t.withGate { t.gate with held := t.gate.held.map f }) := by
  refine ⟨(map_tickets t f hticket _ rfl).trans h.tickets, h.nextTicket, fun g hg hs y hy hu => ?_⟩
  obtain ⟨x, hx, rfl⟩ := List.mem_map.1 hy
  rw [hticket] at hu
  have hx' := h.shows g hg hs x hx hu
  exact (hverdict x hx ((phase_of_verdict hx').trans hg) fun hno => hno g hg hs hu.symm).trans hx'

/-- A change of an entry that was undecided before. -/
theorem updEntry (h : Lasting s t) {v : Nat} (hv : s.Undecided v) (f : HeldRead → HeldRead)
    (hticket : ∀ x, (f x).ticket = x.ticket) : Lasting s (t.updEntry v f) := by
  refine h.mapHeld (fun x => if x.ticket = v then f x else x) (fun x => ?_) fun x _ _ hx => ?_
  · split
    · exact hticket x
    · rfl
  · rw [if_neg fun hxv : x.ticket = v => hx (hxv ▸ hv)]

theorem foldl {α : Type} {f : State → α → State} {l : List α}
    (hf : ∀ x ∈ l, ∀ t, Lasting s t → Lasting s (f t x)) (h : Lasting s t) : Lasting s (l.foldl f t) := by
  induction l generalizing t with
  | nil => exact h
  | cons x l ih =>
    exact ih (fun y hy => hf y (List.mem_cons_of_mem x hy)) (hf x List.mem_cons_self t h)

/-! #### Passages to ELIGIBLE and grants -/

theorem makeEligible (h : Lasting s t) (v : Nat) : Lasting s (t.makeEligible v) := by
  unfold State.makeEligible
  split
  · exact h
  · next e he =>
    obtain ⟨hmem, rfl⟩ := entry_eq_some he
    split
    · next hwait =>
      have hopen : s.Undecided e.ticket := h.undecided (undecided_of_mem hmem (by rw [hwait]; decide))
      exact (h.updEntry hopen (fun x => { x with phase := .eligible, deferred := false }) fun _ => rfl).of_ledger
        (testPermit_ledger _ _)
    · exact h

theorem wake (h : Lasting s t) (p : Path) : Lasting s (t.wake p) :=
  h.foldl fun e _ _ ht => ht.makeEligible e.ticket

end Lasting

/-- R74: an entry after its grant, but for its answer. -/
def HeldRead.granted (x : HeldRead) (d : Decision) (answer : HeldAnswer) : HeldRead :=
  { x with
    phase := .forwarded, outcome := some d.outcome, snapshot := d.snapshot, permit := none, deferred := false
    answer := answer }

/-- R74: a grant leaves the table as its change of the entry leaves it, but for permit times. -/
theorem grant_ledger {s : State} {e : HeldRead} {a : Assigned} (h : e.assigned = some a) :
    (s.grant e).ledger = (s.updEntry e.ticket fun x =>
      x.granted (s.decideGrant e a).1 (answerOf (s.stream e.stream) x (s.decideGrant e a).1.outcome)).ledger := by
  unfold State.grant
  rw [h]
  simp only [consume_ledger, handOff_ledger, forwardGranted_ledger, noteUnderrun_ledger, count_ledger,
    updPath_ledger]
  refine Prod.ext ?_ ?_
  all_goals simp only [State.ledger, State.updEntry, withGate_gate, Onward.decideGrant_gate] <;> rfl

namespace Lasting

variable {s t : State}

theorem grant (h : Lasting s t) {e : HeldRead} (he : e ∈ t.gate.held) (hel : e.phase = .eligible) :
    Lasting s (t.grant e) := by
  cases ha : e.assigned with
  | none => unfold State.grant; rw [ha]; exact h
  | some a =>
    have hopen : s.Undecided e.ticket := h.undecided (undecided_of_mem he (by rw [hel]; decide))
    exact (h.updEntry hopen (fun x =>
      x.granted (t.decideGrant e a).1 (answerOf (t.stream e.stream) x (t.decideGrant e a).1.outcome))
      fun _ => rfl).of_ledger (grant_ledger ha)

theorem arbitrateTimes (h : Lasting s t) (p : Path) (n : Nat) : Lasting s (t.arbitrateTimes p n) := by
  induction n generalizing t with
  | zero => exact h
  | succ n ih =>
    rw [State.arbitrateTimes]
    split
    · exact h
    · next e he => exact ih (h.grant (Onward.winner_mem he).1 (Onward.winner_mem he).2)

theorem arbitrate (h : Lasting s t) (p : Path) : Lasting s (t.arbitrate p) := (h.wake p).arbitrateTimes p _

theorem arbitrateBoth (h : Lasting s t) : Lasting s t.arbitrateBoth := by
  have hwake := (h.wake .A).wake .B
  have hdraw := hwake.of_ledger (drawFree_ledger _)
  unfold State.arbitrateBoth
  dsimp only
  split
  · split
    · exact (hdraw.arbitrate .A).arbitrate .B
    · exact (hdraw.arbitrate .B).arbitrate .A
  · exact (hwake.arbitrate .A).arbitrate .B

theorem releaseReached (h : Lasting s t) (v : Nat) : Lasting s (t.releaseReached v) := by
  unfold State.releaseReached
  split
  · exact h
  · split
    · exact h.arbitrate _
    · exact h

theorem permitReached (h : Lasting s t) (v : Nat) : Lasting s (t.permitReached v) := by
  unfold State.permitReached
  split
  · exact h
  · split
    · exact h.arbitrate _
    · exact h

/-! #### Assignment -/

/-- R84: the entries answered with error are those that were unanswered. -/
theorem failStream (h : Lasting s t) (i : StreamId) : Lasting s (t.failStream i) := by
  refine h.mapHeld (fun x => if x.stream = i && x.unanswered then x.failed else x) (fun x => ?_) fun x _ hx _ => ?_
  · split <;> rfl
  · simp [HeldRead.unanswered, hx]

theorem enterHalted (h : Lasting s t) (i : StreamId) : Lasting s (t.enterHalted i) :=
  (h.failStream i).of_ledger (by simp [State.enterHalted])

theorem haltCheck (h : Lasting s t) (i : StreamId) (p : Path) : Lasting s (t.haltCheck i p) := by
  unfold State.haltCheck
  split
  · exact h.enterHalted i
  · exact h

theorem answerError (h : Lasting s t) {v : Nat} (hv : s.Undecided v) : Lasting s (t.answerError v) :=
  h.updEntry hv HeldRead.failed fun _ => rfl

theorem surplus (h : Lasting s t) {e : HeldRead} (he : s.Undecided e.ticket) : Lasting s (t.surplus e) :=
  (h.of_ledger (u := (t.latch e.stream .drop).count e.stream .surplus) (by simp)).answerError he

theorem dropRead (h : Lasting s t) {e : HeldRead} (he : s.Undecided e.ticket) : Lasting s (t.dropRead e) :=
  (h.answerError he).of_ledger (by simp [State.dropRead])

theorem placed (h : Lasting s t) {e : HeldRead} (he : s.Undecided e.ticket) (a : Assigned) :
    Lasting s (t.placed e a) :=
  (h.updEntry he (fun x => { x with assigned := some a, phase := .waiting }) fun _ => rfl).of_ledger
    (ledger_of_gate (placed_gate t e a))

theorem placeRead (h : Lasting s t) {e : HeldRead} (he : s.Undecided e.ticket) (a : Assigned) :
    Lasting s (t.placeRead e a) := by
  rw [placeRead_eq, State.passOn]
  refine haltCheck ?_ _ _
  split
  · exact (h.placed he a).makeEligible _
  · exact h.placed he a

theorem judge (h : Lasting s t) {e : HeldRead} (he : s.Undecided e.ticket) (a : Assigned) (drop : Option Nat) :
    Lasting s (t.judge e a drop) := by
  have hslip := h.of_ledger (u := (t.setDrop e.stream e.path (some a.frame)).latch e.stream .slip) (by simp)
  simp only [State.judge]
  split
  · exact h.dropRead he
  · split
    · exact h.dropRead he
    · split
      · exact hslip.dropRead he
      · exact h.placeRead he a

theorem assign (h : Lasting s t) {e : HeldRead} (he : s.Undecided e.ticket) : Lasting s (t.assign e) := by
  cases hnext : (t.stream e.stream).nextOf e.path with
  | none => rw [assign_of_no_next hnext]; exact h
  | some np =>
    obtain ⟨a, ha, hn⟩ := Option.bind_eq_some_iff.1 hnext
    by_cases hb : (t.stream e.stream).state = .draining ∧
        ∃ f, (t.stream e.stream).fStop = some f ∧ f < np.frame.frame
    · obtain ⟨hst, f, hf, hlt⟩ := hb
      rw [assign_surplus hst hf ha hn hlt]
      exact h.surplus he
    · have htaken := h.of_ledger (u := (t.advance e.stream e.path np).takeApply e.stream np.frame.frame) (by simp)
      rw [assign_of_next ha hn hb]
      exact (htaken.judge he _ _).of_ledger ((updStream_ledger _ _ _).trans (endFrame_ledger _ _ _))

theorem assignHeld (h : Lasting s t) {e : HeldRead} (he : s.Undecided e.ticket) : Lasting s (t.assignHeld e) := by
  unfold State.assignHeld
  split
  · exact h.assign he
  · exact h

/-! #### The Stream Controller -/

/-- R26: the reads that the completion of ALIGN assigns stand UNASSIGNED before it. -/
theorem completeAlign (s : State) (i : StreamId) : Lasting s (s.completeAlign i) := by
  by_cases hst : (s.stream i).state = .aligning
  · have haligned : Lasting s (s.alignedAt i) := (refl s).of_ledger (by simp [State.alignedAt])
    rw [completeAlign_eq hst]
    refine (haligned.foldl fun e he t ht => ht.assignHeld ?_).arbitrateBoth
    obtain ⟨hmem, _, hphase⟩ := mem_heldReads_iff.1 he
    exact undecided_of_mem hmem (by rw [hphase]; decide)
  · rw [State.completeAlign, if_neg hst]
    exact refl s

theorem drainTimeout (h : Lasting s t) (i : StreamId) : Lasting s (t.drainTimeout i) := by
  unfold State.drainTimeout
  split
  · exact (h.failStream i).of_ledger (by simp)
  · exact h

theorem abortStream (h : Lasting s t) (i : StreamId) : Lasting s (t.abortStream i) := by
  unfold State.abortStream
  split
  · exact h
  · exact (h.failStream i).of_ledger (by simp)

theorem actStop (h : Lasting s t) (i : StreamId) : Lasting s (t.actStop i).2 := by
  have hfailed := (h.failStream i).of_ledger (enterIdle_ledger _ i)
  unfold State.actStop
  split
  · exact h
  · exact hfailed
  · exact hfailed
  · exact h.of_ledger (beginDrain_ledger t i)
  · exact h
  · exact h.of_ledger (enterIdle_ledger t i)

theorem actAbortAll (h : Lasting s t) : Lasting s t.actAbortAll.2 := by
  have habort : ∀ l : List StreamId, Lasting s (l.foldl State.abortStream t) :=
    fun l => h.foldl fun i _ _ ht => ht.abortStream i
  unfold State.actAbortAll State.eachStream
  generalize List.finRange 24 = l
  exact habort l

/-! #### Command words -/

theorem onStream (h : Lasting s t) (n : Nat) {f : State → StreamId → ResultCode × State}
    (hf : ∀ i, Lasting s (f t i).2) : Lasting s (t.onStream n f).2 := by
  unfold State.onStream
  split
  · exact hf _
  · exact h

theorem onZero (h : Lasting s t) (n : Nat) {f : State → ResultCode × State} (hf : Lasting s (f t).2) :
    Lasting s (t.onZero n f).2 := by
  unfold State.onZero
  split
  · exact hf
  · exact h

theorem act (h : Lasting s t) (code operand : Nat) : Lasting s (t.act code operand).2 := by
  unfold State.act
  split
  · exact h.onStream _ fun i => h.of_ledger (actArm_ledger t i)
  · exact h.onStream _ h.actStop
  · exact h.onStream _ h.abortStream
  · exact h.onStream _ fun i => h.of_ledger (actApply_ledger t i)
  · exact h.of_ledger (actClear_ledger t operand)
  · exact h.onZero _ h.actAbortAll
  · exact h.onZero _ (h.of_ledger (actLoadEpoch_ledger t))
  · exact h.onZero _ (h.of_ledger (actPostDevice_ledger t))
  · exact h

theorem takeAction (h : Lasting s t) (w : BitVec 64) : Lasting s (t.takeAction w) := by
  unfold State.takeAction
  dsimp only
  split
  · exact (h.act _ _).of_ledger (endCommand_ledger _ _ _)
  · exact h.of_ledger (endCommand_ledger _ _ _)

/-- R90, R100: of the fields a DATA word is directed to, a path's enable alone reaches held reads. -/
theorem offer (h : Lasting s t) (sel : Selection) (v : Nat) : Lasting s (t.offer sel v).2 := by
  unfold State.offer
  split
  · exact h
  · exact h.of_ledger rfl
  · refine h.of_ledger ?_
    unfold State.ownCarve
    split
    · split
      · rfl
      · split <;> rfl
    · rfl
  · refine h.of_ledger ?_
    unfold State.ownTag
    split <;> rfl
  · unfold State.ownPath State.ownEnable
    split
    · split
      · split
        · exact h
        · exact h.of_ledger rfl
      · exact (h.of_ledger (updPath_ledger t _ _)).arbitrate _
    · exact h.of_ledger rfl
  · refine h.of_ledger ?_
    unfold State.ownReference
    split
    · split <;> simp
    · rfl
  · refine h.of_ledger ?_
    unfold State.ownMasks
    split
    · rfl
    · split <;> rfl

theorem takeData (h : Lasting s t) (w : BitVec 64) : Lasting s (t.takeData w) := by
  unfold State.takeData State.takeSelectedData
  dsimp only
  split
  · exact h.of_ledger (endCommand_ledger _ _ _)
  · exact ((h.of_ledger (noteClamp_ledger t _)).offer _ _).of_ledger
      ((endCommand_ledger _ _ _).trans (withDecoder_ledger _ _))

theorem takeWord (h : Lasting s t) (w : CommandWord) (v : BitVec 64) : Lasting s (t.takeWord w v) := by
  cases w with
  | select => exact h.of_ledger (takeSelect_ledger t v)
  | data => exact h.takeData v
  | action => exact h.takeAction v

theorem event (h : Lasting s t) {f : State → State} (hf : Lasting s (f t)) : Lasting s (event f t) := by
  unfold Machine.event
  split
  · exact h
  · exact hf.of_ledger (settle_ledger _ t)

theorem takeCommand (h : Lasting s t) (a : Nat) (d : List Byte) (w : CommandWord) :
    Lasting s (t.takeCommand a d w) := by
  unfold State.takeCommand
  split
  · exact h.event (h.takeWord w _)
  · split
    · exact h.event (h.of_ledger (takePartial_ledger t w))
    · exact h

theorem fillAction (h : Lasting s t) (a : Nat) (acc : Access) (c : FillClass) :
    Lasting s (t.fillAction a acc c) := by
  unfold State.fillAction
  split
  · split
    · exact h.foldl fun w _ _ ht => ht.takeCommand a _ w
    · exact h
  · split
    · exact h.event (h.of_ledger (accountAll_ledger t a _))
    · exact h
  · exact h
  · exact h

theorem takeFill (h : Lasting s t) (a : Addr) (acc : Access) : Lasting s (t.takeFill a acc) :=
  (h.fillAction _ _ _).of_ledger (withPorts_ledger _ _)

end Lasting

/-! ### What a command does to the table -/

/-- R65: a read whose send-port request is accepted joins the table, and its judgement and the grants that follow leave
what was decided. -/
theorem lasting_arrive (s : State) (i : StreamId) (p : Path) (tag : Tag) (addr : Addr) (len j k : Nat) :
    Lasting (s.addRead (newEntry s tag addr len i p j k)) (s.arrive i p tag addr len j k).arbitrateBoth := by
  have hadded := Lasting.refl (s.addRead (newEntry s tag addr len i p j k))
  have hopen : (s.addRead (newEntry s tag addr len i p j k)).Undecided s.gate.nextTicket :=
    undecided_of_mem (x := newEntry s tag addr len i p j k)
      (List.mem_append_right _ (List.mem_singleton_self _)) (by simp [newEntry])
  refine Lasting.arbitrateBoth ?_
  unfold State.arrive
  dsimp only
  split
  · exact hadded
  · exact hadded
  · exact hadded.assign hopen
  · exact hadded.assign hopen
  · exact hadded.assign hopen
  · exact hadded.answerError hopen

/-- R65, R67, R87: what a command does to the held-read table: it leaves the entries and what is decided of them, lets a
read arrive, takes out an entry whose answer has been returned in full, or abandons them all. -/
inductive TableMoves (c : Instr) (s t : State) : Prop
  | stays (h : Lasting s t)
  | arrives (e : HeldRead) (hticket : e.ticket = s.gate.nextTicket) (hroom : s.gate.held.length < 48)
      (h : Lasting (s.addRead e) t)
  | leaves (e : HeldRead) (r : Response) (hentry : s.entry e.ticket = some e) (hc : c = .answerComplete e.ticket)
      (hr : e.answer = .returning r) (hheld : t.gate.held = s.gate.held.filter fun x => x.ticket ≠ e.ticket)
      (hnext : t.gate.nextTicket = s.gate.nextTicket)
  | abandons (hc : c = .resetAssert ∨ ∃ x, c = .resetRelease x) (hheld : t.gate.held = [])

theorem TableMoves.of_event {c : Instr} {s : State} {f : State → State} (h : TableMoves c s (f s)) :
    TableMoves c s (event f s) := by
  unfold event
  split
  · exact .stays (.refl s)
  · cases h with
    | stays h => exact .stays (h.of_ledger (settle_ledger _ s))
    | arrives e ht hroom h => exact .arrives e ht hroom (h.of_ledger (settle_ledger _ s))
    | leaves e r he hc hr hheld hnext => exact .leaves e r he hc hr hheld hnext
    | abandons hc hheld => exact .abandons hc hheld

theorem presentSend_tableMoves (s : State) (tag : Tag) (addr : Addr) (acc : Access) :
    TableMoves (.sendRequest tag addr acc) s (s.presentSend tag addr acc) := by
  unfold State.presentSend
  split
  · next haccepts =>
    simp only [State.sendAccepts, Bool.and_eq_true, decide_eq_true_eq] at haccepts
    unfold State.takeSend
    split
    · next i p j k _ => exact .arrives _ rfl haccepts.1 (lasting_arrive s i p tag addr acc.len j k)
    · exact .stays ((Lasting.refl s).of_ledger rfl)
    · exact .stays ((Lasting.refl s).of_ledger rfl)
  · exact .stays ((Lasting.refl s).of_ledger (beginStall_ledger s))

theorem endStall_held (g : Gate) : g.endStall.held = g.held := by unfold Gate.endStall; split <;> rfl

theorem endStall_nextTicket (g : Gate) : g.endStall.nextTicket = g.nextTicket := by
  unfold Gate.endStall; split <;> rfl

theorem completeAnswer_tableMoves (s : State) (u : Nat) :
    TableMoves (.answerComplete u) s (s.completeAnswer u) := by
  unfold State.completeAnswer
  split
  · exact .stays (.refl s)
  · next e he =>
    obtain ⟨_, rfl⟩ := entry_eq_some he
    split
    · next r _ hr => exact .leaves e r he rfl hr (endStall_held _) (endStall_nextTicket _)
    · exact .stays (.refl s)

/-- R65: what each command does to the table. -/
theorem exec_tableMoves {c : Instr} {s t : State} (h : exec c s = .next t) : TableMoves c s t := by
  have hs := Lasting.refl s
  have stays {f : State → State} (hf : Lasting s (f s)) : TableMoves c s (event f s) := .stays (hs.event hf)
  cases c <;> cases h
  case resetAssert => exact .abandons (.inl rfl) rfl
  case resetRelease x => exact .abandons (.inr ⟨x, rfl⟩) rfl
  case fillRequest a acc =>
    split
    · exact .stays hs
    · exact .stays (hs.takeFill a acc)
  case partialCommandWord w => exact stays (hs.of_ledger (takePartial_ledger s w))
  case select w => exact stays (hs.of_ledger (takeSelect_ledger s w))
  case alignCompletion i => exact stays (.completeAlign s i)
  case firstFrameStart i => exact stays (hs.of_ledger (startFirstFrame_ledger s i))
  case frameStart i => exact stays (hs.of_ledger (nextFrameStart_ledger s i))
  case drainTimeout i => exact stays (hs.drainTimeout i)
  case sendRequest tag addr acc => exact (presentSend_tableMoves s tag addr acc).of_event
  case stall => exact stays (hs.of_ledger (beginStall_ledger s))
  case releaseTimeReached u => exact stays (hs.releaseReached u)
  case permitTimeReached u => exact stays (hs.permitReached u)
  case pathFree p => exact stays (hs.arbitrate p)
  case releasedReadReturn n r => exact stays (hs.of_ledger (memoryReturn_ledger s n r))
  case answerComplete u => exact (completeAnswer_tableMoves s u).of_event
  case memoryPortGrant => exact stays (hs.of_ledger (memoryGrant_ledger s))
  case memoryAnswer n r => exact stays (hs.of_ledger (memoryReturn_ledger s n r))
  case readToClear n r => exact stays (hs.of_ledger (memoryReturn_ledger s n r))
  case statusPosting =>
    split
    · exact .stays hs
    · exact .stays (hs.of_ledger (post_ledger s))
  case refPulse => exact stays (hs.of_ledger (refPulse_ledger s))
  case pulseTimeout => exact stays (hs.of_ledger (pulseTimeout_ledger s))
  case echoStrobe p tag => exact stays (hs.of_ledger (echoStrobe_ledger s p tag))
  case unknownActionCode w => exact stays (hs.takeAction w)
  case arm | stop | abort | abortAll | apply | clearCounters | loadEpoch | postDevice =>
    exact stays (hs.takeAction _)
  all_goals exact stays (hs.takeData _)

end Sys2Proof.Machine
end

-- The held-read table over a step (R65, R67, R68, R87).
section
namespace Sys2Proof.Machine

open Sys2Proof

/-- R65: what a step does to the table: on an empty queue nothing, and otherwise what its command does. -/
theorem step_tableMoves {s t : State} (h : step s = .next t) :
    Lasting s t ∨ ∃ c rest, s.pending = c :: rest ∧ TableMoves c (s.withPending rest) t := by
  unfold step at h
  split at h
  · cases h
    refine .inl ((Lasting.refl s).of_ledger ?_)
    unfold State.tick
    split <;> rfl
  · next c rest hp => exact .inr ⟨c, rest, hp, exec_tableMoves h⟩

theorem heldTableRight_iff_tickets (s : State) : HeldTableRight s ↔
    s.tickets.length ≤ 48 ∧ s.tickets.Nodup ∧ ∀ u ∈ s.tickets, u < s.gate.nextTicket := by
  simp [HeldTableRight, State.tickets]

theorem Lasting.heldTableRight {s t : State} (h : Lasting s t) (hs : HeldTableRight s) : HeldTableRight t := by
  rw [heldTableRight_iff_tickets] at hs ⊢
  rwa [h.tickets, h.nextTicket]

/-- R65: an entry keeps its place under its ticket. -/
theorem Lasting.mem {s t : State} (h : Lasting s t) {e : HeldRead} (he : e ∈ s.gate.held) :
    ∃ y ∈ t.gate.held, y.ticket = e.ticket := by
  have hmem : e.ticket ∈ t.tickets := h.tickets ▸ List.mem_map.2 ⟨e, he, rfl⟩
  exact List.mem_map.1 hmem

/-- R65, R68: the table with a read that found room in it. -/
theorem addRead_heldTableRight {s : State} {e : HeldRead} (h : HeldTableRight s)
    (he : e.ticket = s.gate.nextTicket) (hroom : s.gate.held.length < 48) : HeldTableRight (s.addRead e) := by
  have hnext : (s.addRead e).gate.nextTicket = s.gate.nextTicket + 1 := rfl
  refine (heldTableRight_iff_tickets _).2 ⟨?_, nodup_addRead h he, fun u hu => ?_⟩
  · rw [addRead_tickets, List.length_append, State.tickets, List.length_map, List.length_singleton]
    omega
  · rw [addRead_tickets, List.mem_append, List.mem_singleton] at hu
    rcases hu with hu | rfl
    · have := ((heldTableRight_iff_tickets s).1 h).2.2 u hu
      omega
    · omega

/-- R65: the table with some entries taken out. -/
theorem heldTableRight_of_sublist {s t : State} (h : HeldTableRight s)
    (hheld : t.gate.held.Sublist s.gate.held) (hnext : t.gate.nextTicket = s.gate.nextTicket) : HeldTableRight t := by
  obtain ⟨hlen, hnodup, hlt⟩ := h
  exact ⟨hheld.length_le.trans hlen, hnodup.sublist (hheld.map _), fun e he => hnext ▸ hlt e (hheld.subset he)⟩

/-- Settles O55: by what a step does to the table. -/
theorem heldTableNeverOverfull : Obligations.HeldTableNeverOverfull := by
  intro s t hs hstep
  rcases step_tableMoves hstep with h | ⟨c, rest, hp, hmoves⟩
  · exact ⟨h.heldTableRight hs, fun e he => .inl (h.mem he)⟩
  · replace hs : HeldTableRight (s.withPending rest) := hs
    have hhead : s.pending.head? = some c := by rw [hp]; rfl
    rw [hhead]
    cases hmoves with
    | stays h => exact ⟨h.heldTableRight hs, fun e he => .inl (h.mem (s := s.withPending rest) he)⟩
    | arrives e hticket hroom h =>
      exact ⟨h.heldTableRight (addRead_heldTableRight hs hticket hroom), fun x hx =>
        .inl (h.mem (List.mem_append_left [e] hx))⟩
    | leaves e r hentry hc hr hheld hnext =>
      refine ⟨heldTableRight_of_sublist hs (hheld ▸ List.filter_sublist) hnext, fun x hx => ?_⟩
      by_cases hx' : x.ticket = e.ticket
      · obtain rfl := eq_of_ticket (s := s.withPending rest) hs.2.1 hx (entry_eq_some hentry).1 hx'
        exact .inr (.inl ⟨r, congrArg some hc, hr⟩)
      · exact .inl ⟨x, hheld ▸ List.mem_filter.2 ⟨hx, decide_eq_true hx'⟩, rfl⟩
    | abandons hc hheld =>
      refine ⟨by simp [HeldTableRight, hheld], fun x _ => .inr (.inr ?_)⟩
      rcases hc with rfl | ⟨y, rfl⟩
      · exact .inl rfl
      · exact .inr ⟨y, rfl⟩

/-- R65: a table without repeated tickets shows each of its entries. -/
theorem shows_of_mem {s : State} (h : HeldTableRight s) {e : HeldRead} (he : e ∈ s.gate.held) : s.Shows e :=
  fun x hx hu => by rw [eq_of_ticket h.2.1 hx he hu]

/-- R67: a step leaves the verdict of every FORWARDED entry that stays. -/
theorem verdict_of_step {s t : State} (hs : HeldTableRight s) (hstep : step s = .next t) {e x : HeldRead}
    (he : e ∈ s.gate.held) (hphase : e.phase = .forwarded) (hx : x ∈ t.gate.held) (hu : x.ticket = e.ticket) :
    x.verdict = e.verdict := by
  rcases step_tableMoves hstep with h | ⟨c, rest, _, hmoves⟩
  · exact h.shows e hphase (shows_of_mem hs he) x hx hu
  · have hshows : (s.withPending rest).Shows e := shows_of_mem hs he
    cases hmoves with
    | stays h => exact h.shows e hphase hshows x hx hu
    | arrives y hticket _ h =>
      refine h.shows e hphase (fun z hz hzu => ?_) x hx hu
      rcases List.mem_append.1 hz with hz | hz
      · exact hshows z hz hzu
      · obtain rfl := List.mem_singleton.1 hz
        exact absurd (hzu.symm.trans hticket) (ticket_fresh hs e he)
    | leaves y r _ _ _ hheld _ => exact hshows x (List.mem_of_mem_filter (hheld ▸ hx)) hu
    | abandons _ hheld => exact absurd (hheld ▸ hx) List.not_mem_nil

/-- Settles O56: a FORWARDED entry keeps its verdict. -/
theorem forwardedReadIsFinal : Obligations.ForwardedReadIsFinal := by
  intro s t hs hstep e he hphase x hx hu
  have hverdict := verdict_of_step hs hstep he hphase hx hu
  simp only [HeldRead.verdict, HeldRead.mk.injEq] at hverdict
  obtain ⟨_, hstream, hpath, htag, haddr, hlen, _, _, _, hforwarded, houtcome, hsnapshot, _⟩ := hverdict
  exact ⟨hforwarded.trans hphase, houtcome, hsnapshot, hstream, hpath, htag, haddr, hlen⟩

end Sys2Proof.Machine
end

-- The stall of the send port, the answers of released reads and their completion (R65, R68, R79 to R81).
section
namespace Sys2Proof.Machine

open Sys2Proof

/-! ### The stall (R68) -/

/-- R68: at a full table a request waits. -/
theorem presentSend_of_full {s : State} (h : 48 ≤ s.gate.held.length) (tag : Tag) (addr : Addr) (acc : Access) :
    s.presentSend tag addr acc = s.beginStall := by
  have hfull : s.sendAccepts = false := by simp [State.sendAccepts, Nat.not_lt.2 h]
  simp [State.presentSend, hfull]

/-- R68: a stall episode begins. -/
theorem beginStall_of_full {s : State} (h : 48 ≤ s.gate.held.length) (hs : s.gate.stalled = false) :
    s.beginStall = ((s.withGate { s.gate with stalled := true }).latchDevice .stall).countDevice .stallEpisodes := by
  simp [State.beginStall, h, hs]

/-- R68: one that is in progress goes on. -/
theorem beginStall_of_stalled {s : State} (hs : s.gate.stalled = true) : s.beginStall = s := by
  simp [State.beginStall, hs]

/-- R68: both commands that present a request at a full table. -/
theorem exec_at_full_table {s : State} {c : Instr} {tag : Tag} {addr : Addr} {acc : Access} (hr : s.inReset = false)
    (hc : c = .stall ∨ c = .sendRequest tag addr acc) (h : 48 ≤ s.gate.held.length) :
    exec c s = .next (settle s s.beginStall) := by
  rcases hc with rfl | rfl
  · show Host.Outcome.next (event State.beginStall s) = _
    rw [event_live hr]
  · show Host.Outcome.next (event (fun s => s.presentSend tag addr acc) s) = _
    rw [event_live hr, presentSend_of_full h]

/-- An event that leaves everything but the gate. -/
theorem statusBecomes_of_status {b s : State} (h : s.status = b.status) :
    StatusBecomes b (settle b s) b.status.events b.status.counters [] :=
  statusBecomes_settle (by rw [h]) fun r => by simp [h]

/-- Settles O27, by whether an episode is in progress. -/
theorem fullTableStallsSendPort : Obligations.FullTableStallsSendPort := by
  intro c tag addr acc s hr hc hfull
  refine ⟨_, exec_at_full_table hr hc hfull, ?_⟩
  cases hs : s.gate.stalled with
  | true =>
    rw [beginStall_of_stalled hs]
    refine ⟨?_, nofun, fun _ => statusBecomes_of_status rfl⟩
    rw [← hs]
    rfl
  | false =>
    rw [beginStall_of_full hfull hs]
    exact ⟨rfl, fun _ => ⟨rfl, rfl, rfl, rfl, settle_closes fun r => by simp⟩, nofun⟩

/-! ### The completion of an answer (R65, R67) -/

/-- The entry of a ticket, where tickets are not repeated. -/
theorem entry_of_mem {s : State} (h : HeldTableRight s) {e : HeldRead} (he : e ∈ s.gate.held) :
    s.entry e.ticket = some e := by
  obtain ⟨x, hx⟩ := Option.isSome_iff_exists.1
    (List.find?_isSome (p := fun x : HeldRead => x.ticket == e.ticket).2 ⟨e, he, beq_self_eq_true e.ticket⟩)
  obtain ⟨hmem, hu⟩ := entry_eq_some hx
  rw [eq_of_ticket h.2.1 hmem he hu] at hx
  exact hx

/-- R65: the other entries are those of another ticket. -/
theorem filter_ticket_eq_erase {s : State} (h : HeldTableRight s) {e : HeldRead} (he : e ∈ s.gate.held) :
    (s.gate.held.filter fun x => x.ticket ≠ e.ticket) = s.gate.held.erase e := by
  rw [(h.2.1.of_map _).erase_eq_filter]
  refine List.filter_congr fun x hx => ?_
  rw [Bool.eq_iff_iff, decide_eq_true_eq, bne_iff_ne]
  exact not_congr ⟨eq_of_ticket h.2.1 hx he, congrArg HeldRead.ticket⟩

/-- Settles O39: the entry leaves the table, which then has room. -/
theorem answerCompleteFreesEntry : Obligations.AnswerCompleteFreesEntry := by
  intro s e r hr hs he hphase hanswer
  have hroom : (s.gate.held.erase e).length < 48 := by
    have := List.length_erase_of_mem he
    have := List.length_pos_of_mem he
    have := hs.1
    omega
  have hcomplete : s.completeAnswer e.ticket =
      (s.withGate { held := s.gate.held.erase e, stalled := false, nextTicket := s.gate.nextTicket }).withPorts
        { s.ports with sendOut := some ⟨{ tag := e.tag, addr := e.addr, acc := .read e.len }, r⟩ } := by
    simp only [State.completeAnswer, entry_of_mem hs he, hphase, hanswer, filter_ticket_eq_erase hs he]
    rw [Gate.endStall, if_pos hroom]
  refine ⟨settle s (s.completeAnswer e.ticket), ?_, ?_, ?_⟩
  · show Host.Outcome.next (event (fun s => s.completeAnswer e.ticket) s) = _
    rw [event_live hr]
  · rw [hcomplete]; rfl
  · rw [hcomplete]; exact statusBecomes_of_status rfl

/-! ### The return of a released read's data (R79 to R81) -/

/-- R80: the comparison fails for a read of length L or more whose first L bytes do not sum to the snapshot. -/
theorem checkFails_iff (segLen len : Nat) (d : List Byte) (snap : BitVec 32) :
    checkFails segLen len d snap = true ↔
      segLen ≤ len ∧ BitVec.ofNat 32 ((d.take segLen).map BitVec.toNat).sum ≠ snap := by
  simp only [checkFails, byteSum_eq, Bool.and_eq_true, decide_eq_true_eq, bne_iff_ne]
  refine and_congr_right fun h => ?_
  rw [Nat.min_eq_right h]

/-- R80, R81: which answers raise CHECK. -/
theorem raisesCheck_iff (s : State) (e : HeldRead) (r : Response) :
    s.raisesCheck e r = true ↔
      e.outcome = some .normal ∧ e.pastRun = false ∧ (s.stream e.stream).active.segLen ≤ e.len ∧
        ∃ d snap, r = .data d ∧ e.snapshot = some snap ∧
          BitVec.ofNat 32 ((d.take (s.stream e.stream).active.segLen).map BitVec.toNat).sum ≠ snap := by
  unfold State.raisesCheck
  split
  · next d snap ho hsnap => simp [ho, hsnap, checkFails_iff]
  · next hno =>
    refine iff_of_false Bool.false_ne_true ?_
    rintro ⟨ho, _, _, d, snap, rfl, hsnap, _⟩
    exact hno d snap rfl ho hsnap

/-- A change of the entry of a ticket, where tickets are not repeated. -/
theorem updEntry_of_mem {s : State} (h : HeldTableRight s) {e : HeldRead} (he : e ∈ s.gate.held)
    (f : HeldRead → HeldRead) : s.updEntry e.ticket f =
      s.withGate { s.gate with held := s.gate.held.map fun x => if x.ticket = e.ticket then f e else x } := by
  have hmap : (s.gate.held.map fun x => if x.ticket = e.ticket then f x else x) =
      s.gate.held.map fun x => if x.ticket = e.ticket then f e else x := by
    refine List.map_congr_left fun x hx => ?_
    split
    · next hu => rw [eq_of_ticket h.2.1 hx he hu]
    · rfl
  rw [State.updEntry, hmap]

/-- What latching and counting for a stream leave alone. -/
theorem latch_count_frame (s : State) (i : StreamId) (e : StreamEvent) (c : StreamCounter) :
    (s.latch i e).count i c =
      { s with streams := ((s.latch i e).count i c).streams, status := ((s.latch i e).count i c).status } := rfl

/-- R80: a stream for which CHECK (bit 8) has been latched and counted. -/
theorem latch_count_check_stream (s : State) (i j : StreamId) :
    ((s.latch i .check).count i .check).stream j =
      if j = i then
        { s.stream i with events := (s.stream i).events ||| 256#16, counters := bump (s.stream i).counters 8 }
      else s.stream j := by
  rw [count_stream, latch_stream, if_pos rfl]
  split
  · rfl
  · next h => rw [latch_stream, if_neg h]

/-- Settles O38, by whether the answer raises CHECK. -/
theorem releasedReadReturnChecksSum : Obligations.ReleasedReadReturnChecksSum := by
  intro s n r q e hr hs hq he hticket st fails
  let s1 := s.withPorts { s.ports with atMemory := s.ports.atMemory.eraseIdx n }
  let s2 := s1.updEntry e.ticket fun x => { x with answer := .returning r }
  have hentry : s1.entry e.ticket = some e := entry_of_mem hs he
  have hs2 : s2 = _ := updEntry_of_mem (s := s1) hs he fun x => { x with answer := .returning r }
  have hfails : s1.raisesCheck e r = true ↔ fails := raisesCheck_iff s1 e r
  have hreturn : s.memoryReturn n r =
      if s1.raisesCheck e r then (s2.latch e.stream .check).count e.stream .check else s2 := by
    simp only [State.memoryReturn, hq, State.returnReleased, ← hticket]
    rw [hentry]
  refine ⟨settle s (s.memoryReturn n r), ?_, ?_, fun hf => ?_, fun hf => ?_⟩
  · show Host.Outcome.next (event (fun s => s.memoryReturn n r) s) = _
    rw [event_live hr]
  · rw [hreturn, hs2]
    split
    · rw [settle_frame, latch_count_frame]; rfl
    · rfl
  · rw [hreturn, if_pos (hfails.2 hf)]
    exact ⟨latch_count_check_stream s2 e.stream, statusBecomes_settle rfl fun x => by simp [s2, s1, State.updEntry]⟩
  · rw [hreturn, if_neg (mt hfails.1 hf)]
    exact ⟨rfl, statusBecomes_of_status rfl⟩

end Sys2Proof.Machine
end

-- The reads that an event finds due, and the choice of the arbiter (R73, R95, R96, R99 to R101).
section
namespace Sys2Proof.Machine

open Sys2Proof

/-! ### Permit times (R95) -/

/-- R95: the permit time of a test is the first instant from then on that permits a release. -/
theorem firstPermitted_permitTime (st : Stream) (p : Path) (now : Nat) (hd : 0 < st.active.gapD) :
    FirstPermitted (st.levelAt p now) st.active.gapD ((st.active.meterDepth - 1) * st.active.gapG) now
      (st.permitTime p now) := by
  have hwait (g : Nat) : ceilDiv (st.levelAt p now - st.active.allowance) st.active.gapD ≤ g ↔
      st.levelAt p now ≤ st.active.allowance + st.active.gapD * g := by
    rw [ceilDiv_le_iff _ _ _ hd, Nat.mul_comm]
    omega
  show FirstPermitted _ _ st.active.allowance _ _
  rw [Stream.permitTime]
  split
  · next h =>
    refine ⟨Nat.le_refl now, ?_, fun u hlo hhi => by omega⟩
    exact (of_decide_eq_true h : st.levelAt p now ≤ _).trans (Nat.le_add_right _ _)
  · refine ⟨Nat.le_add_right _ _, ?_, fun u hlo hhi => ?_⟩
    · rw [Nat.add_sub_cancel_left, ← hwait]
    · exact Nat.lt_of_not_le fun h => by have := (hwait (u - now)).2 h; omega

/-- R95: a test permits a release exactly where its permit time is the present. -/
theorem permits_iff (st : Stream) (p : Path) (now : Nat) (hd : 0 < st.active.gapD) :
    st.permits p now = true ↔ st.permitTime p now ≤ now := by
  obtain ⟨hnow, hle, _⟩ := firstPermitted_permitTime st p now hd
  constructor
  · intro h
    rw [Stream.permitTime, if_pos h]
  · intro h
    rw [Nat.le_antisymm h hnow, Nat.sub_self] at hle
    exact decide_eq_true (hle.trans (Nat.le_refl _))

/-- R93: the level of a meter as it drains, not held at 0, by its level at an earlier instant. -/
theorem draining_level_le_iff (m : Meter) (d allowance : Nat) {now u : Nat} (hm : m.updated ≤ now) (hu : now ≤ u) :
    (m.level : Int) - d * ((u : Int) - m.updated) ≤ (allowance : Nat) ↔
      meterLevel d m now ≤ allowance + d * (u - now) := by
  obtain ⟨a, rfl⟩ := Nat.exists_eq_add_of_le hm
  obtain ⟨b, rfl⟩ := Nat.exists_eq_add_of_le hu
  have hdrained : (d : Int) * (((m.updated + a + b : Nat) : Int) - m.updated) = ((d * a + d * b : Nat) : Int) := by
    push_cast
    ring
  rw [hdrained, meterLevel, Nat.add_sub_cancel_left, Nat.add_sub_cancel_left]
  omega

/-! ### The passage of an entry to ELIGIBLE (R73, R96) -/

/-- R73, R95, R96: an entry as it passes to ELIGIBLE. -/
def State.woken (s : State) (x : HeldRead) : HeldRead :=
  { x with
    phase := .eligible, permit := some ((s.stream x.stream).permitTime x.path s.time.now)
    deferred := !(s.stream x.stream).permits x.path s.time.now }

/-- The table with the entry `e` as it passes to ELIGIBLE. -/
def State.withWoken (s : State) (e : HeldRead) : State :=
  s.withGate { s.gate with held := s.gate.held.map fun x => if x.ticket = e.ticket then s.woken e else x }

/-- Two changes of one entry are one. -/
theorem updEntry_updEntry (s : State) (u : Nat) (f g : HeldRead → HeldRead) (hf : ∀ x, (f x).ticket = x.ticket) :
    (s.updEntry u f).updEntry u g = s.updEntry u fun x => g (f x) := by
  simp only [State.updEntry, withGate_gate, List.map_map]
  have hmap : ((fun x => if x.ticket = u then g x else x) ∘ fun x => if x.ticket = u then f x else x) =
      fun x : HeldRead => if x.ticket = u then g (f x) else x := by
    funext x
    by_cases hx : x.ticket = u <;> simp [hx, hf]
  rw [hmap]
  rfl

/-- R73, R95, R96: the passage to ELIGIBLE of a WAITING entry. -/
theorem makeEligible_of_mem {s : State} (h : HeldTableRight s) {e : HeldRead} (he : e ∈ s.gate.held)
    (hwait : e.phase = .waiting) : s.makeEligible e.ticket =
      if (s.stream e.stream).permits e.path s.time.now then s.withWoken e
      else ((s.withWoken e).count e.stream .deferred).latch e.stream .deferred := by
  let q := (s.stream e.stream).permitTime e.path s.time.now
  let f : HeldRead → HeldRead := fun x => { x with phase := .eligible, deferred := false }
  let g : HeldRead → HeldRead := fun x => { x with permit := some q }
  let defer : HeldRead → HeldRead := fun x => { x with deferred := true }
  have hpass : s.makeEligible e.ticket = (s.updEntry e.ticket f).testPermit (f e) := by
    rw [State.makeEligible, entry_of_mem h he]
    exact if_pos hwait
  have htest : (s.updEntry e.ticket f).testPermit (f e) =
      let s1 := (s.updEntry e.ticket f).updEntry e.ticket g
      if (s.stream e.stream).permits e.path s.time.now then s1
      else ((s1.updEntry e.ticket defer).count e.stream .deferred).latch e.stream .deferred := rfl
  rw [hpass, htest, updEntry_updEntry _ _ f g fun _ => rfl]
  dsimp only
  rw [updEntry_updEntry _ _ (fun x => g (f x)) defer fun _ => rfl, updEntry_of_mem h he, updEntry_of_mem h he]
  unfold State.withWoken State.woken
  cases (s.stream e.stream).permits e.path s.time.now <;> rfl

/-- What the tests of the meters read of the streams: their active copies and their meters. -/
def State.metering (s : State) (i : StreamId) : Params × PathPair (Option Meter) :=
  ((s.stream i).active, (s.stream i).meters)

theorem metering_of_latch_count (s : State) (i : StreamId) (e : StreamEvent) (c : StreamCounter) :
    ((s.count i c).latch i e).metering = s.metering := by
  funext j
  simp only [State.metering, latch_stream, count_stream]
  split
  · next h => subst h; simp [Stream.count]
  · rfl

/-- R95: the passage depends on the meters and the time base alone. -/
theorem woken_congr {s t : State} (hm : t.metering = s.metering) (ht : t.time = s.time) (x : HeldRead) :
    t.woken x = s.woken x := by
  have hx := congrFun hm x.stream
  simp only [State.metering, Prod.mk.injEq] at hx
  obtain ⟨hactive, hmeters⟩ := hx
  have hlevel : (t.stream x.stream).levelAt x.path = (s.stream x.stream).levelAt x.path := by
    unfold Stream.levelAt
    rw [hactive, hmeters]
  have hpermits : (t.stream x.stream).permits x.path = (s.stream x.stream).permits x.path := by
    unfold Stream.permits
    rw [hlevel, hactive]
  have htime : (t.stream x.stream).permitTime x.path = (s.stream x.stream).permitTime x.path := by
    unfold Stream.permitTime
    rw [hlevel, hpermits, hactive]
  rw [State.woken, State.woken, htime, hpermits, ht]

section MakeEligible

variable {s : State} (h : HeldTableRight s) {e : HeldRead} (he : e ∈ s.gate.held) (hwait : e.phase = .waiting)
include h he hwait

theorem makeEligible_gate : (s.makeEligible e.ticket).gate = (s.withWoken e).gate := by
  rw [makeEligible_of_mem h he hwait]
  split
  · rfl
  · rw [latch_gate, count_gate]

theorem makeEligible_metering : (s.makeEligible e.ticket).metering = s.metering := by
  rw [makeEligible_of_mem h he hwait]
  split
  · rfl
  · exact metering_of_latch_count _ _ _ _

theorem makeEligible_beside : (s.makeEligible e.ticket).beside = s.beside := by
  rw [makeEligible_of_mem h he hwait]
  split
  · rfl
  · simp [State.withWoken]

end MakeEligible

/-- R73: several WAITING entries pass to ELIGIBLE, each tested against the meters as they stood. -/
theorem foldl_makeEligible (l : List HeldRead) {s : State} (h : HeldTableRight s)
    (hl : ∀ e ∈ l, e ∈ s.gate.held ∧ e.phase = .waiting) (hnodup : (l.map (·.ticket)).Nodup) :
    (l.foldl (fun s e => s.makeEligible e.ticket) s).gate.held =
        s.gate.held.map (fun x => if x ∈ l then s.woken x else x) ∧
      (l.foldl (fun s e => s.makeEligible e.ticket) s).metering = s.metering ∧
      (l.foldl (fun s e => s.makeEligible e.ticket) s).beside = s.beside := by
  induction l generalizing s with
  | nil => simp
  | cons e l ih =>
    obtain ⟨⟨he, hwait⟩, hrest⟩ := List.forall_mem_cons.1 hl
    rw [List.map_cons, List.nodup_cons] at hnodup
    obtain ⟨hnew, hnodup⟩ := hnodup
    have hother : ∀ x ∈ l, x.ticket ≠ e.ticket := fun x hx hu => hnew (hu ▸ List.mem_map.2 ⟨x, hx, rfl⟩)
    obtain ⟨t, ht⟩ : ∃ t, s.makeEligible e.ticket = t := ⟨_, rfl⟩
    have hheld : t.gate.held = s.gate.held.map fun x => if x.ticket = e.ticket then s.woken e else x := by
      rw [← ht, makeEligible_gate h he hwait]; rfl
    have hmetering : t.metering = s.metering := ht ▸ makeEligible_metering h he hwait
    have htime : t.time = s.time := congrArg Still.time (ht ▸ makeEligible_still s e.ticket)
    have htable : HeldTableRight t := ht ▸ ((Lasting.refl s).makeEligible e.ticket).heldTableRight h
    obtain ⟨hheld', hmetering', hbeside'⟩ := ih htable
      (fun x hx => ⟨hheld ▸ List.mem_map.2 ⟨x, (hrest x hx).1, if_neg (hother x hx)⟩, (hrest x hx).2⟩) hnodup
    rw [List.foldl_cons, ht]
    refine ⟨hheld'.trans ?_, hmetering'.trans hmetering, hbeside'.trans (ht ▸ makeEligible_beside h he hwait)⟩
    rw [hheld, List.map_map]
    refine List.map_congr_left fun x hx => ?_
    simp only [Function.comp_apply, List.mem_cons, woken_congr hmetering htime]
    by_cases hu : x.ticket = e.ticket
    · obtain rfl := eq_of_ticket h.2.1 hx he hu
      have hgone : s.woken x ∉ l := fun hmem => Phase.noConfusion (hrest _ hmem).2
      simp [hgone]
    · have hxe : x ≠ e := fun heq => hu (congrArg HeldRead.ticket heq)
      simp only [hu, hxe, if_false, false_or]

/-- R73: an entry as the reads of a path that are due pass to ELIGIBLE. -/
def State.wakened (s : State) (p : Path) (x : HeldRead) : HeldRead :=
  if x.path = p ∧ x.phase = .waiting ∧ x.release ≤ s.time.now then s.woken x else x

theorem mem_dueOn_iff {s : State} {p : Path} {x : HeldRead} :
    x ∈ s.dueOn p ↔ x ∈ s.gate.held ∧ x.path = p ∧ x.phase = .waiting ∧ x.release ≤ s.time.now := by
  simp [State.dueOn, State.releaseDue]

/-- R73: the table, the meters and the paths once the reads of a path that are due have passed to ELIGIBLE. -/
theorem wake_eq {s : State} (h : HeldTableRight s) (p : Path) :
    (s.wake p).gate.held = s.gate.held.map (s.wakened p) ∧ (s.wake p).metering = s.metering ∧
      (s.wake p).beside = s.beside := by
  have hnodup : ((s.dueOn p).map (·.ticket)).Nodup := h.2.1.sublist (List.filter_sublist.map _)
  obtain ⟨hheld, hrest⟩ := foldl_makeEligible (s.dueOn p) h
    (fun e he => ⟨(mem_dueOn_iff.1 he).1, (mem_dueOn_iff.1 he).2.2.1⟩) hnodup
  refine ⟨hheld.trans (List.map_congr_left fun x hx => ?_), hrest⟩
  unfold State.wakened
  by_cases hdue : x.path = p ∧ x.phase = .waiting ∧ x.release ≤ s.time.now
  · rw [if_pos hdue, if_pos (mem_dueOn_iff.2 ⟨hx, hdue⟩)]
  · rw [if_neg hdue, if_neg fun hmem => hdue (mem_dueOn_iff.1 hmem).2]

@[simp] theorem wakened_ticket (s : State) (p : Path) (x : HeldRead) : (s.wakened p x).ticket = x.ticket := by
  unfold State.wakened; split <;> rfl
@[simp] theorem wakened_stream (s : State) (p : Path) (x : HeldRead) : (s.wakened p x).stream = x.stream := by
  unfold State.wakened; split <;> rfl
@[simp] theorem wakened_path (s : State) (p : Path) (x : HeldRead) : (s.wakened p x).path = x.path := by
  unfold State.wakened; split <;> rfl
@[simp] theorem wakened_assigned (s : State) (p : Path) (x : HeldRead) :
    (s.wakened p x).assigned = x.assigned := by unfold State.wakened; split <;> rfl
@[simp] theorem wakened_release (s : State) (p : Path) (x : HeldRead) : (s.wakened p x).release = x.release := by
  unfold State.wakened; split <;> rfl

/-! ### The choice (R99, R101) -/

/-- R99: the entries that the arbiter chooses among. -/
theorem mem_grantable_iff {s : State} {p : Path} {x : HeldRead} :
    x ∈ s.gate.held.filter (s.grantable p) ↔ EligibleForGrant s x ∧ x.path = p := by
  have hpermit : (match x.permit with | none => false | some t => decide (t ≤ s.time.now)) = true ↔
      ∃ t, x.permit = some t ∧ t ≤ s.time.now := by cases x.permit <;> simp
  simp only [List.mem_filter, State.grantable, Bool.and_eq_true, decide_eq_true_eq, beq_iff_eq, EligibleForGrant]
  constructor
  · rintro ⟨hx, ⟨⟨⟨rfl, hen⟩, hel⟩, ht⟩, hfree⟩
    exact ⟨⟨hx, hel, hen, hfree, hpermit.1 ht⟩, rfl⟩
  · rintro ⟨⟨hx, hel, hen, hfree, ht⟩, rfl⟩
    exact ⟨hx, ⟨⟨⟨rfl, hen⟩, hel⟩, hpermit.2 ht⟩, hfree⟩

/-- R101: what the order of grants compares of an entry: release time, class, turn and arrival. -/
def State.rank (s : State) (p : Path) (x : HeldRead) : Nat ×ₗ Nat ×ₗ Nat ×ₗ Nat :=
  toLex (x.release, toLex (s.classRank x, toLex (s.turn p x, x.ticket)))

theorem wins_iff (s : State) (p : Path) (x y : HeldRead) : s.wins p x y = true ↔ s.rank p x < s.rank p y := by
  simp only [State.rank, Prod.Lex.toLex_lt_toLex, State.wins]
  split
  · simp_all
  · split
    · simp_all
    · split <;> simp_all

/-- R101: the best entry of a list comes before all others or level with them. -/
theorem rank_best_le {s : State} {p : Path} {l : List HeldRead} {e : HeldRead} (h : s.best p l = some e) :
    ∀ x ∈ l, s.rank p e ≤ s.rank p x := by
  induction l generalizing e with
  | nil => cases h
  | cons y l ih =>
    rw [State.best] at h
    refine List.forall_mem_cons.2 ?_
    split at h
    · next hnone =>
      cases h
      rw [(best_eq_none_iff s p l).1 hnone]
      exact ⟨le_rfl, fun _ hx => absurd hx List.not_mem_nil⟩
    · next z hz =>
      split at h
      · next hwins =>
        cases h
        exact ⟨((wins_iff s p _ _).1 hwins).le, ih hz⟩
      · next hwins =>
        cases h
        have hle : s.rank p y ≤ s.rank p z := not_lt.1 (mt (wins_iff s p _ _).2 hwins)
        exact ⟨le_rfl, fun x hx => hle.trans (ih hz x hx)⟩

/-- R101: class 1 comes before class 0. -/
theorem classRank_lt_iff (s : State) (e x : HeldRead) : s.classRank e < s.classRank x ↔
    (s.stream e.stream).active.classOne = true ∧ (s.stream x.stream).active.classOne = false := by
  unfold State.classRank
  cases (s.stream e.stream).active.classOne <;> cases (s.stream x.stream).active.classOne <;> simp

theorem classRank_eq_iff (s : State) (e x : HeldRead) : s.classRank e = s.classRank x ↔
    (s.stream e.stream).active.classOne = (s.stream x.stream).active.classOne := by
  unfold State.classRank
  cases (s.stream e.stream).active.classOne <;> cases (s.stream x.stream).active.classOne <;> simp

/-- R101: an entry's turn in the rotation of its class. -/
theorem turn_eq (s : State) (p : Path) (y : HeldRead) : s.turn p y = (y.stream.val + 23 -
    (if (s.stream y.stream).active.classOne = true then (s.paths.get p).lastWinner1
      else (s.paths.get p).lastWinner0).val) % 24 := by
  unfold State.turn
  split <;> rfl

/-- R101: the order of ranks is the order in which entries are granted. -/
theorem grantedFirst_of_rank_le {s : State} {p : Path} {e x : HeldRead} (h : s.rank p e ≤ s.rank p x) :
    GrantedFirst s p e x := by
  simp only [State.rank, Prod.Lex.toLex_le_toLex] at h
  unfold GrantedFirst
  dsimp only
  rw [← turn_eq, ← turn_eq]
  rcases h with hlt | ⟨heq, hlt | ⟨hclass, hlt | ⟨hturn, hle⟩⟩⟩
  · exact ⟨hlt.le, fun heq => absurd heq hlt.ne⟩
  · obtain ⟨he, hx⟩ := (classRank_lt_iff s e x).1 hlt
    exact ⟨heq.le, fun _ => ⟨fun _ => he, fun hsame => absurd (he.symm.trans (hsame.trans hx)) (by decide)⟩⟩
  · have hone := (classRank_eq_iff s e x).1 hclass
    refine ⟨heq.le, fun _ => ⟨hone.trans, fun _ => ⟨hlt.le, fun hstream => absurd ?_ hlt.ne⟩⟩⟩
    rw [turn_eq, turn_eq, hstream]
  · have hone := (classRank_eq_iff s e x).1 hclass
    exact ⟨heq.le, fun _ => ⟨hone.trans, fun _ => ⟨hturn.le, fun _ => hle⟩⟩⟩

/-- R100: the arbiter chooses whenever an entry is eligible for grant. -/
theorem exists_winner {s : State} {p : Path} {x : HeldRead} (hx : EligibleForGrant s x) (hp : x.path = p) :
    ∃ e, s.winner p = some e := by
  refine Option.ne_none_iff_exists'.1 fun hnone => ?_
  have hmem := mem_grantable_iff.2 ⟨hx, hp⟩
  rw [(best_eq_none_iff s p _).1 hnone] at hmem
  exact List.not_mem_nil hmem

/-- R99, R101: what it chooses is eligible for grant, and first of all that are. -/
theorem winner_spec {s : State} {p : Path} {e : HeldRead} (h : s.winner p = some e) :
    (EligibleForGrant s e ∧ e.path = p) ∧
      ∀ x, EligibleForGrant s x → x.path = p → s.rank p e ≤ s.rank p x :=
  ⟨mem_grantable_iff.1 (Onward.best_mem s p _ h), fun x hx hp => rank_best_le h x (mem_grantable_iff.2 ⟨hx, hp⟩)⟩

end Sys2Proof.Machine
end

-- The grants of an event on a path (R73, R74, R91, R99 to R101).
section
namespace Sys2Proof.Machine

open Sys2Proof

/-! ### What a grant leaves of its path -/

theorem paths_of_beside {s t : State} (h : t.beside = s.beside) : t.paths = s.paths := congrArg (fun x => x.2.1) h

section Beside

variable (s : State)

@[simp] theorem updEntry_beside (u : Nat) (f : HeldRead → HeldRead) : (s.updEntry u f).beside = s.beside := rfl
@[simp] theorem deferEntry_beside (e : HeldRead) : (s.deferEntry e).beside = s.beside := by
  unfold State.deferEntry
  dsimp only
  split <;> simp
@[simp] theorem testPermit_beside (e : HeldRead) : (s.testPermit e).beside = s.beside := by
  unfold State.testPermit
  dsimp only
  split <;> simp
@[simp] theorem chargeMeter_beside (i : StreamId) (p : Path) : (s.chargeMeter i p).beside = s.beside :=
  foldl_keeps testPermit_beside _ _
@[simp] theorem marginSample_beside (i : StreamId) (m : Nat) : (s.marginSample i m).beside = s.beside := by
  simp only [State.marginSample]
  split
  · simp
  · split <;> simp

/-- R121: a push leaves the time until which each path is busy. -/
theorem echoPush_busyUntil (p q : Path) (x : EchoEntry) :
    ((s.echoPush p x).paths.get q).busyUntil = (s.paths.get q).busyUntil := by
  have hupd (t : State) (f : PathState → PathState) (hf : ∀ y, (f y).busyUntil = y.busyUntil) :
      ((t.updPath p f).paths.get q).busyUntil = (t.paths.get q).busyUntil := by
    by_cases hq : q = p
    · subst hq; rw [updPath_paths, PathPair.get_set, hf]
    · rw [updPath_paths, PathPair.get_set_ne _ _ hq]
  have hroom : ((s.echoMakeRoom p).paths.get q).busyUntil = (s.paths.get q).busyUntil := by
    unfold State.echoMakeRoom
    split
    · exact hupd s (fun y => { y with echoQueue := y.echoQueue.tail }) fun _ => rfl
    · rfl
  exact (hupd (s.echoMakeRoom p) (fun y => { y with echoQueue := y.echoQueue ++ [x] }) fun _ => rfl).trans hroom

end Beside

/-- R91: a grant that returns data keeps its path busy for the packet's wire time. -/
theorem handOff_busyUntil (s : State) (e : HeldRead) (a : Assigned) {d : Decision} (hd : returnsData d.outcome = true) :
    ((s.handOff e a d).paths.get e.path).busyUntil =
      s.time.now + (s.paths.get e.path).wireTime (s.stream e.stream).active.segLen := by
  obtain ⟨u, hu⟩ : ∃ u, ((s.updPath e.path fun x =>
      { x with busyUntil := s.time.now + x.wireTime (s.stream e.stream).active.segLen }).chargeMeter e.stream
        e.path).echoPush e.path { tag := e.tag, stream := e.stream, launch := a.launch, pastRun := false } = u :=
    ⟨_, rfl⟩
  have hbusy : (u.paths.get e.path).busyUntil =
      s.time.now + (s.paths.get e.path).wireTime (s.stream e.stream).active.segLen := by
    rw [← hu, echoPush_busyUntil, paths_of_beside (chargeMeter_beside _ _ _), updPath_paths, PathPair.get_set]
  simp only [State.handOff, hd, if_true, hu]
  split
  · split
    · rw [paths_of_beside (marginSample_beside _ _ _), hbusy]
    · exact hbusy
  · exact hbusy

/-- R74 to R79, R88, R102: a grant up to its hand-offs: the decision, the entry, the rotation, the counts and the send
forwarder. -/
def State.decided (s : State) (e : HeldRead) (a : Assigned) : State :=
  let d := (s.decideGrant e a).1
  (((((s.decideGrant e a).2.updEntry e.ticket fun x =>
      x.granted d (answerOf (s.stream e.stream) x d.outcome)).updPath e.path fun x =>
        x.setWinner (s.stream e.stream).active.classOne e.stream).count e.stream
          (releasedCounter e.path)).noteUnderrun e.stream d.outcome).forwardGranted e d.outcome

theorem grant_eq {s : State} {e : HeldRead} {a : Assigned} (h : e.assigned = some a) :
    s.grant e = ((s.decided e a).handOff e a (s.decideGrant e a).1).consume e.stream := by
  unfold State.grant
  rw [h]
  rfl

/-- The times by byte of the paths and the active copies of the streams. -/
def State.wiring (s : State) : (Path → Nat) × (StreamId → Params) :=
  (fun p => (s.paths.get p).byteTime, fun i => (s.stream i).active)

section Wiring

variable (s : State)

theorem latch_wiring (i : StreamId) (e : StreamEvent) : (s.latch i e).wiring = s.wiring := by
  refine Prod.ext rfl (funext fun j => ?_)
  show ((s.latch i e).stream j).active = (s.stream j).active
  rw [latch_stream]
  split
  · next h => rw [h]
  · rfl

theorem count_wiring (i : StreamId) (c : StreamCounter) : (s.count i c).wiring = s.wiring := by
  refine Prod.ext rfl (funext fun j => ?_)
  show ((s.count i c).stream j).active = (s.stream j).active
  rw [count_stream]
  split
  · next h => rw [h]; rfl
  · rfl

theorem setWinner_wiring (p : Path) (one : Bool) (i : StreamId) :
    (s.updPath p fun x => x.setWinner one i).wiring = s.wiring := by
  refine Prod.ext (funext fun q => ?_) rfl
  show (((s.updPath p fun x => x.setWinner one i).paths.get q)).byteTime = (s.paths.get q).byteTime
  by_cases hq : q = p
  · subst hq
    rw [updPath_paths, PathPair.get_set]
    cases one <;> rfl
  · rw [updPath_paths, PathPair.get_set_ne _ _ hq]

theorem decideGrant_wiring (e : HeldRead) (a : Assigned) : (s.decideGrant e a).2.wiring = s.wiring := by
  have hpresent : (s.presentGrant e.stream e.path a.line a.seg).2.2.wiring = s.wiring := by
    unfold State.presentGrant
    dsimp only
    split <;> rfl
  simp only [State.decideGrant]
  split
  · split <;> simp_all
  · rfl

theorem noteUnderrun_wiring (i : StreamId) (o : ReadOutcome) : (s.noteUnderrun i o).wiring = s.wiring := by
  unfold State.noteUnderrun
  split
  · rfl
  · rw [count_wiring, latch_wiring]

theorem forwardGranted_wiring (e : HeldRead) (o : ReadOutcome) : (s.forwardGranted e o).wiring = s.wiring := by
  unfold State.forwardGranted
  split
  · unfold State.forwardRead
    split <;> rfl
  · rfl

theorem decided_wiring (e : HeldRead) (a : Assigned) : (s.decided e a).wiring = s.wiring := by
  unfold State.decided
  dsimp only
  rw [forwardGranted_wiring, noteUnderrun_wiring, count_wiring, setWinner_wiring]
  exact decideGrant_wiring s e a

theorem decided_time (e : HeldRead) (a : Assigned) : (s.decided e a).time = s.time := by
  have hstill : (s.decided e a).still = s.still := by simp [State.decided]
  exact congrArg Still.time hstill

end Wiring

/-- R91: the wire time of a packet is positive. -/
theorem wireTime_pos {x : PathState} {segLen : Nat} (hs : 0 < segLen) (hb : 0 < x.byteTime) :
    0 < x.wireTime segLen := by
  refine Nat.pos_of_ne_zero fun hzero => ?_
  have hle := (ceilDiv_le_iff ((segLen + x.overhead) * x.byteTime) 1000 0 (by decide)).1 hzero.le
  have hpos := Nat.mul_pos (Nat.add_pos_left hs x.overhead) hb
  omega

/-- R91: after a grant that returns data the path is busy. -/
theorem grant_busyUntil {s : State} {e : HeldRead} {a : Assigned} (ha : e.assigned = some a)
    (hd : returnsData (s.decideGrant e a).1.outcome = true) (hs : 0 < (s.stream e.stream).active.segLen)
    (hb : 0 < (s.paths.get e.path).byteTime) :
    (s.grant e).time.now < ((s.grant e).paths.get e.path).busyUntil := by
  have hwiring := decided_wiring s e a
  have hbyte : ((s.decided e a).paths.get e.path).byteTime = (s.paths.get e.path).byteTime :=
    congrFun (congrArg Prod.fst hwiring) e.path
  have hactive : ((s.decided e a).stream e.stream).active = (s.stream e.stream).active :=
    congrFun (congrArg Prod.snd hwiring) e.stream
  have htime : (s.grant e).time = s.time := congrArg Still.time (grant_still s e)
  rw [htime, grant_eq ha, paths_of_beside (consume_beside _ _), handOff_busyUntil _ e a hd, decided_time, hactive]
  exact Nat.lt_add_of_pos_right (wireTime_pos hs (hbyte ▸ hb))

/-! ### The entries over a grant -/

/-- States of one ledger hold entries of the same verdicts. -/
theorem mem_of_ledger {s t : State} (h : t.ledger = s.ledger) {x : HeldRead} (hx : x ∈ s.gate.held) :
    ∃ y ∈ t.gate.held, y.verdict = x.verdict := by
  have hheld : t.gate.held.map HeldRead.verdict = s.gate.held.map HeldRead.verdict := congrArg Prod.fst h
  exact List.mem_map.1 (hheld ▸ List.mem_map.2 ⟨x, hx, rfl⟩)

/-- R74: the entry granted. -/
theorem mem_grant {s : State} {e : HeldRead} {a : Assigned} (he : e ∈ s.gate.held) (ha : e.assigned = some a) :
    ∃ y ∈ (s.grant e).gate.held, y.ticket = e.ticket ∧ y.phase = .forwarded ∧
      y.outcome = some (s.decideGrant e a).1.outcome := by
  obtain ⟨y, hy, hverdict⟩ := mem_of_ledger (grant_ledger ha) (List.mem_map.2 ⟨e, he, if_pos rfl⟩)
  exact ⟨y, hy, (congrArg HeldRead.ticket hverdict :), (congrArg HeldRead.phase hverdict :),
    (congrArg HeldRead.outcome hverdict :)⟩

/-- R74: every other entry. -/
theorem mem_grant_of_ne {s : State} {e x : HeldRead} {a : Assigned} (ha : e.assigned = some a)
    (hx : x ∈ s.gate.held) (hne : x.ticket ≠ e.ticket) : ∃ y ∈ (s.grant e).gate.held, y.verdict = x.verdict :=
  mem_of_ledger (grant_ledger ha) (List.mem_map.2 ⟨x, hx, if_neg hne⟩)

/-- R67: a FORWARDED entry stays as it is. -/
theorem Lasting.mem_forwarded {s t : State} (h : Lasting s t) (hs : HeldTableRight s) {x : HeldRead}
    (hx : x ∈ s.gate.held) (hf : x.phase = .forwarded) : ∃ y ∈ t.gate.held, y.verdict = x.verdict := by
  obtain ⟨y, hy, hu⟩ := h.mem hx
  exact ⟨y, hy, h.shows x hf (shows_of_mem hs hx) y hy hu⟩

/-! ### The grants of an event on a path -/

theorem winner_eq_none {s : State} {p : Path} (h : ∀ x, EligibleForGrant s x → x.path ≠ p) : s.winner p = none := by
  refine Option.eq_none_iff_forall_ne_some.2 fun e he => ?_
  obtain ⟨hel, hp⟩ := (winner_spec he).1
  exact h e hel hp

theorem arbitrateTimes_of_no_winner {s : State} {p : Path} (h : s.winner p = none) (n : Nat) :
    s.arbitrateTimes p n = s := by
  cases n with
  | zero => rfl
  | succ n => rw [State.arbitrateTimes, h]

/-- R100: the first grant of an event is the winner's. -/
theorem arbitrate_of_winner {s : State} {p : Path} {e : HeldRead} (h : (s.wake p).winner p = some e) :
    ∃ n, s.arbitrate p = ((s.wake p).grant e).arbitrateTimes p n := by
  have hpos := List.length_pos_of_mem (Onward.winner_mem h).1
  obtain ⟨n, hn⟩ := Nat.exists_eq_succ_of_ne_zero hpos.ne'
  refine ⟨n, ?_⟩
  simp only [State.arbitrate, hn, State.arbitrateTimes, h]

/-- R74, R100: the winner is granted, and stays so. -/
theorem arbitrate_grants {s : State} (hs : HeldTableRight s) {p : Path} {e : HeldRead} {a : Assigned}
    (h : (s.wake p).winner p = some e) (ha : e.assigned = some a) :
    ∃ y ∈ (s.arbitrate p).gate.held, y.ticket = e.ticket ∧ y.phase = .forwarded ∧
      y.outcome = some ((s.wake p).decideGrant e a).1.outcome := by
  obtain ⟨hmem, hel⟩ := Onward.winner_mem h
  obtain ⟨n, hn⟩ := arbitrate_of_winner h
  have hgranted : HeldTableRight ((s.wake p).grant e) :=
    (((Lasting.refl s).wake p).grant hmem hel).heldTableRight hs
  obtain ⟨x, hx, hticket, hphase, houtcome⟩ := mem_grant hmem ha
  rw [hn]
  obtain ⟨y, hy, hverdict⟩ := ((Lasting.refl _).arbitrateTimes p n).mem_forwarded hgranted hx hphase
  exact ⟨y, hy, (ticket_of_verdict hverdict).trans hticket, (phase_of_verdict hverdict).trans hphase,
    (congrArg HeldRead.outcome hverdict).trans houtcome⟩

/-- R91, R100: a grant that returns data is the only one of its path in the event. -/
theorem arbitrate_of_data {s : State} {p : Path} {e : HeldRead} {a : Assigned}
    (h : (s.wake p).winner p = some e) (ha : e.assigned = some a)
    (hd : returnsData ((s.wake p).decideGrant e a).1.outcome = true)
    (hlen : 0 < ((s.wake p).stream e.stream).active.segLen) (hbyte : 0 < ((s.wake p).paths.get p).byteTime) :
    s.arbitrate p = (s.wake p).grant e := by
  obtain ⟨n, hn⟩ := arbitrate_of_winner h
  obtain ⟨_, rfl⟩ := (winner_spec h).1
  have hbusy := grant_busyUntil ha hd hlen hbyte
  rw [hn]
  refine arbitrateTimes_of_no_winner (winner_eq_none fun x hx hp => ?_) n
  obtain ⟨_, _, _, hfree, _⟩ := hx
  rw [hp] at hfree
  omega

/-! ### The reads ready to go -/

section Ready

variable {s : State} (hs : HeldTableRight s) {p : Path}

include hs in
theorem wake_paths : (s.wake p).paths = s.paths := paths_of_beside (wake_eq hs p).2.2

theorem wake_time : (s.wake p).time = s.time := congrArg Still.time (wake_still s p)

include hs in
theorem wake_active (i : StreamId) : ((s.wake p).stream i).active = (s.stream i).active :=
  congrArg Prod.fst (congrFun (wake_eq hs p).2.1 i)

include hs in
theorem mem_wake_iff {y : HeldRead} : y ∈ (s.wake p).gate.held ↔ ∃ x ∈ s.gate.held, s.wakened p x = y := by
  rw [(wake_eq hs p).1, List.mem_map]

include hs in
/-- R101: the passage to ELIGIBLE leaves the order of grants. -/
theorem rank_wakened (x : HeldRead) : (s.wake p).rank p (s.wakened p x) = s.rank p x := by
  simp only [State.rank, State.classRank, State.turn, wakened_release, wakened_stream, wakened_ticket,
    wake_active hs, wake_paths hs]

include hs in
/-- R73, R99: an entry that has passed or stands ELIGIBLE is eligible for grant on an enabled, free path where its
permit time is reached. -/
theorem eligibleForGrant_wake_iff {x : HeldRead} (hx : x ∈ s.gate.held) (hp : x.path = p) :
    EligibleForGrant (s.wake p) (s.wakened p x) ↔
      (s.wakened p x).phase = .eligible ∧ (s.paths.get p).enable = true ∧
        (s.paths.get p).busyUntil ≤ s.time.now ∧ ∃ t, (s.wakened p x).permit = some t ∧ t ≤ s.time.now := by
  simp only [EligibleForGrant, wake_paths hs, wake_time, wakened_path, hp]
  exact and_iff_right ((mem_wake_iff hs).2 ⟨x, hx, rfl⟩)

include hs in
/-- R73, R95, R99: the entries eligible for grant once the due have passed are those that were ready to go. -/
theorem readyToGo_iff (hgap : ∀ x ∈ s.dueOn p, 0 < (s.stream x.stream).active.gapD)
    (hen : (s.paths.get p).enable = true) (hfree : (s.paths.get p).busyUntil ≤ s.time.now) {x : HeldRead}
    (hx : x ∈ s.gate.held) (hp : x.path = p) :
    EligibleForGrant (s.wake p) (s.wakened p x) ↔ ReadyToGo s p x := by
  rw [eligibleForGrant_wake_iff hs hx hp]
  by_cases hdue : x.path = p ∧ x.phase = .waiting ∧ x.release ≤ s.time.now
  · have hpermits := permits_iff (s.stream x.stream) p s.time.now (hgap x (mem_dueOn_iff.2 ⟨hx, hdue⟩))
    have hlevel : (s.stream x.stream).permits p s.time.now = true ↔
        (s.stream x.stream).levelAt p s.time.now ≤
          ((s.stream x.stream).active.meterDepth - 1) * (s.stream x.stream).active.gapG := decide_eq_true_iff
    rw [State.wakened, if_pos hdue]
    simp only [State.woken, Option.some.injEq, exists_eq_left', ReadyToGo, hx, hen, hfree,
      hdue.1, hdue.2.1, hdue.2.2, true_and, reduceCtorEq, false_and, false_or]
    exact hpermits.symm.trans hlevel
  · rw [State.wakened, if_neg hdue]
    simp only [ReadyToGo, hx, hp, hen, hfree, true_and]
    refine ⟨.inl, ?_⟩
    rintro (h | ⟨hwait, hrel, _⟩)
    · exact h
    · exact absurd ⟨hp, hwait, hrel⟩ hdue

include hs in
/-- R101: the winner, by the entries as they stood before the event: one that is ready to go, and first of those. -/
theorem winner_wake (hgap : ∀ x ∈ s.dueOn p, 0 < (s.stream x.stream).active.gapD)
    (hen : (s.paths.get p).enable = true) (hfree : (s.paths.get p).busyUntil ≤ s.time.now)
    (hready : ∃ x, ReadyToGo s p x) :
    ∃ e, (s.wake p).winner p = some (s.wakened p e) ∧ ReadyToGo s p e ∧
      ∀ x, ReadyToGo s p x → GrantedFirst s p e x := by
  have heligible {x : HeldRead} (h : ReadyToGo s p x) : EligibleForGrant (s.wake p) (s.wakened p x) :=
    (readyToGo_iff hs hgap hen hfree h.1 h.2.1).2 h
  have hpath {x : HeldRead} (h : ReadyToGo s p x) : (s.wakened p x).path = p := (wakened_path s p x).trans h.2.1
  obtain ⟨x, hx⟩ := hready
  obtain ⟨y, hy⟩ := exists_winner (heligible hx) (hpath hx)
  obtain ⟨⟨hyel, hyp⟩, hfirst⟩ := winner_spec hy
  obtain ⟨e, he, rfl⟩ := (mem_wake_iff hs).1 hyel.1
  refine ⟨e, hy, (readyToGo_iff hs hgap hen hfree he ((wakened_path s p e).symm.trans hyp)).1 hyel, fun z hz => ?_⟩
  have hrank := hfirst _ (heligible hz) (hpath hz)
  rw [rank_wakened hs, rank_wakened hs] at hrank
  exact grantedFirst_of_rank_le hrank

end Ready

/-! ### The commands -/

/-- R73: the command RELEASE_TIME_REACHED of an entry that is due. -/
theorem exec_releaseTimeReached {s : State} (hr : s.inReset = false) (hs : HeldTableRight s) {e : HeldRead}
    (he : e ∈ s.gate.held) (hwait : e.phase = .waiting) (hrel : e.release ≤ s.time.now) :
    exec (.releaseTimeReached e.ticket) s = .next (settle s (s.arbitrate e.path)) := by
  show Host.Outcome.next (event (fun s => s.releaseReached e.ticket) s) = _
  rw [event_live hr]
  simp only [State.releaseReached, entry_of_mem hs he, State.releaseDue, hwait, hrel, beq_self_eq_true, decide_true,
    Bool.and_self, if_true]

/-- R95: the command PERMIT_TIME_REACHED of an ELIGIBLE entry. -/
theorem exec_permitTimeReached {s : State} (hr : s.inReset = false) (hs : HeldTableRight s) {e : HeldRead}
    (he : e ∈ s.gate.held) (hel : e.phase = .eligible) :
    exec (.permitTimeReached e.ticket) s = .next (settle s (s.arbitrate e.path)) := by
  show Host.Outcome.next (event (fun s => s.permitReached e.ticket) s) = _
  rw [event_live hr]
  simp only [State.permitReached, entry_of_mem hs he, hel, beq_self_eq_true, if_true]

/-- R91, R100: the command PATH_FREE. -/
theorem exec_pathFree {s : State} (hr : s.inReset = false) (p : Path) :
    exec (.pathFree p) s = .next (settle s (s.arbitrate p)) := by
  show Host.Outcome.next (event (fun s => s.arbitrate p) s) = _
  rw [event_live hr]

/-- R82: a grant returns data unless its outcome is UNDERRUN-ERROR. -/
theorem returnsData_of_ne {o : ReadOutcome} (h : o ≠ .underrunError) : returnsData o = true := by
  cases o with
  | underrunError => exact absurd rfl h
  | _ => rfl

/-- R73: an entry that has passed to ELIGIBLE is not FORWARDED. -/
theorem wakened_phase_ne {s : State} {p : Path} {x : HeldRead} (h : x.phase ≠ .forwarded) :
    (s.wakened p x).phase ≠ .forwarded := by
  unfold State.wakened
  split
  · exact Phase.noConfusion
  · exact h

/-- Settles O37: the arbiter's choice is the entry of the least rank, and the first grant of the event is its. -/
theorem arbiterChoosesByReleaseTime : Obligations.ArbiterChoosesByReleaseTime := by
  refine ⟨fun s p _ => ⟨fun ⟨x, hx, hp⟩ => exists_winner hx hp, fun e he => ?_⟩, ?_⟩
  · obtain ⟨⟨hel, hp⟩, hfirst⟩ := winner_spec he
    exact ⟨hel, hp, fun x hx hxp => grantedFirst_of_rank_le (hfirst x hx hxp)⟩
  · intro c s p hr hs hair hen hfree hgap hc hready
    have hexec : exec c s = .next (settle s (s.arbitrate p)) := by
      rcases hc with rfl | ⟨k, hk, rfl, ⟨hel, rfl⟩ | ⟨hwait, hrel, rfl⟩⟩
      · exact exec_pathFree hr p
      · exact exec_permitTimeReached hr hs hk hel
      · exact exec_releaseTimeReached hr hs hk hwait hrel
    obtain ⟨e, hwinner, he, hfirst⟩ :=
      winner_wake hs (fun x hx => hgap x (mem_dueOn_iff.1 hx).1) hen hfree hready
    obtain ⟨hmem, hp, hphase⟩ := id he
    obtain ⟨a, ha⟩ : ∃ a, e.assigned = some a := by
      have hopen : e.phase ≠ .forwarded ∧ e.phase ≠ .unassigned := by
        rcases hphase with ⟨h, _⟩ | ⟨h, _⟩ <;> rw [h] <;> decide
      exact Option.isSome_iff_exists.1 ((hair e hmem hopen.1).2.2.2.2 hopen.2)
    have hassigned : (s.wakened p e).assigned = some a := (wakened_assigned s p e).trans ha
    obtain ⟨y, hy, hticket, hforwarded, houtcome⟩ := arbitrate_grants hs hwinner hassigned
    refine ⟨e, settle s (s.arbitrate p), y, he, hfirst, hexec, hy, hticket.trans (wakened_ticket s p e), hforwarded,
      by rw [houtcome]; rfl, fun hdata hlen hbyte x hx hne hopen => ?_⟩
    have hreturns := returnsData_of_ne fun h => hdata (houtcome.trans (congrArg some h))
    have honly := arbitrate_of_data hwinner hassigned hreturns
      (by rw [wake_active hs, wakened_stream]; exact hlen) (by rw [wake_paths hs]; exact hbyte)
    obtain ⟨z, hz, hverdict⟩ := mem_grant_of_ne (s := s.wake p) hassigned ((mem_wake_iff hs).2 ⟨x, hx, rfl⟩)
      (by rwa [wakened_ticket, wakened_ticket])
    refine ⟨z, honly ▸ hz, (ticket_of_verdict hverdict).trans (wakened_ticket s p x), ?_⟩
    rw [phase_of_verdict hverdict]
    exact wakened_phase_ne hopen

end Sys2Proof.Machine
end

-- A read's release time (R73, R95, R96, R100).
section
namespace Sys2Proof.Machine

open Sys2Proof

/-- R101: the release time of an assigned entry. -/
theorem release_of_assigned {x : HeldRead} {a : Assigned} (h : x.assigned = some a) : x.release = a.release := by
  rw [HeldRead.release, h]
  rfl

/-! ### The test of a meter, by its level (R93, R95) -/

/-- R93: the level of a stream-path's meter, draining from an instant on, by its level at that instant. -/
theorem level_le_iff {st : Stream} {p : Path} {m : Meter} (hm : st.meters.get p = some m) {now u : Nat}
    (hnow : m.updated ≤ now) (hu : now ≤ u) (allowance : Nat) :
    (m.level : Int) - st.active.gapD * ((u : Int) - m.updated) ≤ (allowance : Nat) ↔
      st.levelAt p now ≤ allowance + st.active.gapD * (u - now) := by
  rw [draining_level_le_iff m st.active.gapD allowance hnow hu, Stream.levelAt, hm]

/-- R95: a test permits a release exactly where the level is not above the allowance. -/
theorem permits_iff_level {st : Stream} {p : Path} {m : Meter} (hm : st.meters.get p = some m) {now : Nat}
    (hnow : m.updated ≤ now) :
    st.permits p now = true ↔ (m.level : Int) - st.active.gapD * ((now : Int) - m.updated) ≤
      ((st.active.meterDepth - 1) * st.active.gapG : Nat) := by
  rw [level_le_iff hm hnow le_rfl, Nat.sub_self]
  exact decide_eq_true_iff

/-- R96: the mark of an entry that passes to ELIGIBLE is set exactly where its permit time is not the present. -/
theorem not_permits_eq (st : Stream) (p : Path) (now : Nat) (hd : 0 < st.active.gapD) :
    (!st.permits p now) = decide (st.permitTime p now ≠ now) := by
  have hnow := (firstPermitted_permitTime st p now hd).1
  rw [Bool.eq_iff_iff, Bool.not_eq_true', ← Bool.not_eq_true, permits_iff st p now hd, decide_eq_true_iff]
  omega

/-- R96: a stream for which DEFERRED (bit 10) has been counted and latched. -/
theorem count_latch_deferred_stream (s : State) (i j : StreamId) :
    ((s.count i .deferred).latch i .deferred).stream j =
      if j = i then
        { s.stream i with events := (s.stream i).events ||| 1024#16, counters := bump (s.stream i).counters 9 }
      else s.stream j := by
  rw [latch_stream, count_stream, if_pos rfl]
  split
  · rfl
  · next h => rw [count_stream, if_neg h]

/-! ### An entry that is alone due on its path -/

section Alone

variable {s : State} (hs : HeldTableRight s) {e : HeldRead} (he : e ∈ s.gate.held) (hwait : e.phase = .waiting)
  (hrel : e.release ≤ s.time.now) (halone : ∀ x ∈ s.dueOn e.path, x = e)

include hs he hwait hrel halone in
theorem dueOn_eq_singleton : s.dueOn e.path = [e] := by
  have hmem : e ∈ s.dueOn e.path := mem_dueOn_iff.2 ⟨he, rfl, hwait, hrel⟩
  have hnodup : (s.dueOn e.path).Nodup := (List.Nodup.of_map _ hs.2.1).sublist List.filter_sublist
  rw [List.eq_replicate_iff.2 ⟨rfl, halone⟩] at hnodup hmem ⊢
  have hone : (s.dueOn e.path).length = 1 :=
    Nat.le_antisymm (List.nodup_replicate.1 hnodup) (Nat.pos_of_ne_zero (List.mem_replicate.1 hmem).1)
  rw [hone]
  rfl

include hs he hwait hrel halone in
theorem wake_eq_makeEligible : s.wake e.path = s.makeEligible e.ticket := by
  rw [State.wake, dueOn_eq_singleton hs he hwait hrel halone]
  rfl

include hwait hrel in
theorem wakened_self : s.wakened e.path e = s.woken e := if_pos ⟨rfl, hwait, hrel⟩

include halone in
theorem wakened_of_ne {x : HeldRead} (hx : x ∈ s.gate.held) (hne : x ≠ e) : s.wakened e.path x = x :=
  if_neg fun hdue => hne (halone x (mem_dueOn_iff.2 ⟨hx, hdue⟩))

include hs hwait hrel halone in
/-- R95, R99: nothing is granted on a path that is busy or disabled, or where the meter of the one due entry forbids
it and no other is eligible for grant. -/
theorem winner_wake_eq_none (hd : 0 < (s.stream e.stream).active.gapD)
    (h : s.time.now < (s.paths.get e.path).busyUntil ∨ (s.paths.get e.path).enable = false ∨
      ¬(s.stream e.stream).permits e.path s.time.now = true ∧ ∀ x, EligibleForGrant s x → x.path ≠ e.path) :
    (s.wake e.path).winner e.path = none := by
  refine winner_eq_none fun y hy hp => ?_
  obtain ⟨x, hx, rfl⟩ := (mem_wake_iff hs).1 hy.1
  rw [wakened_path] at hp
  obtain ⟨hel, hen, hfree, hpermit⟩ := (eligibleForGrant_wake_iff hs hx hp).1 hy
  rcases h with hbusy | hdisabled | ⟨hforbidden, hother⟩
  · omega
  · rw [hdisabled] at hen
    cases hen
  · by_cases hxe : x = e
    · subst hxe
      rw [wakened_self hwait hrel] at hpermit
      obtain ⟨t, ht, hle⟩ := hpermit
      cases ht
      exact hforbidden ((permits_iff _ _ _ hd).2 hle)
    · rw [wakened_of_ne halone hx hxe] at hel hpermit
      exact hother x ⟨hx, hel, hp ▸ hen, hp ▸ hfree, hpermit⟩ hp

include hs he hwait hrel halone in
/-- R73, R100: on an enabled, free path where its meter permits it and no entry is ELIGIBLE, it is granted. -/
theorem arbitrate_grants_alone (ha : e.assigned.isSome = true) (hd : 0 < (s.stream e.stream).active.gapD)
    (hen : (s.paths.get e.path).enable = true) (hfree : (s.paths.get e.path).busyUntil ≤ s.time.now)
    (hpermits : (s.stream e.stream).permits e.path s.time.now = true)
    (hnone : ∀ x ∈ s.gate.held, x.path = e.path → x.phase ≠ .eligible) :
    ∃ y ∈ (s.arbitrate e.path).gate.held, y.ticket = e.ticket ∧ y.phase = .forwarded ∧
      y.outcome.isSome = true := by
  have hready : ReadyToGo s e.path e := ⟨he, rfl, .inr ⟨hwait, hrel, of_decide_eq_true hpermits⟩⟩
  obtain ⟨x, hwinner, ⟨hx, hp, hphase⟩, _⟩ :=
    winner_wake hs (fun x hx => halone x hx ▸ hd) hen hfree ⟨e, hready⟩
  obtain rfl : x = e := by
    rcases hphase with ⟨hel, _⟩ | ⟨hxwait, hxrel, _⟩
    · exact absurd hel (hnone x hx hp)
    · exact halone x (mem_dueOn_iff.2 ⟨hx, hp, hxwait, hxrel⟩)
  obtain ⟨a, ha⟩ := Option.isSome_iff_exists.1 ha
  obtain ⟨y, hy, hticket, hforwarded, houtcome⟩ :=
    arbitrate_grants hs hwinner ((wakened_assigned s x.path x).trans ha)
  exact ⟨y, hy, hticket.trans (wakened_ticket s x.path x), hforwarded, by rw [houtcome]; rfl⟩

include hs he hwait in
/-- R73, R95, R96: what an entry's passage to ELIGIBLE changes. -/
theorem settle_makeEligible_eq (hd : 0 < (s.stream e.stream).active.gapD) :
    settle s (s.makeEligible e.ticket) =
      { s with
        streams := (settle s (s.makeEligible e.ticket)).streams
        status := (settle s (s.makeEligible e.ticket)).status
        gate := { s.gate with
          held := s.gate.held.map fun x =>
            if x.ticket = e.ticket then
              { e with
                phase := .eligible, permit := some ((s.stream e.stream).permitTime e.path s.time.now)
                deferred := decide ((s.stream e.stream).permitTime e.path s.time.now ≠ s.time.now) }
            else x } } := by
  refine eq_of_still ((settle_still ..).trans (makeEligible_still ..))
    ((settle_beside ..).trans (makeEligible_beside hs he hwait)) ?_
  rw [settle_gate, makeEligible_gate hs he hwait, ← not_permits_eq _ _ _ hd]
  rfl

end Alone

/-- Settles O34, by whether the entry is held back or granted. -/
theorem releaseTimeMakesEligible : Obligations.ReleaseTimeMakesEligible := by
  intro s e m hr hs he hwait hdue hothers hm hd st path level allowance hupdated
  obtain ⟨a, ha, hle⟩ := hdue
  have hrel : e.release ≤ s.time.now := (release_of_assigned ha).trans_le hle
  have halone : ∀ x ∈ s.dueOn e.path, x = e := by
    intro x hx
    obtain ⟨hmem, hp, hxwait, hxrel⟩ := mem_dueOn_iff.1 hx
    by_contra hne
    obtain ⟨b, hb, hlt⟩ := hothers x hmem hp hxwait hne
    rw [release_of_assigned hb] at hxrel
    omega
  have hpermits : st.permits e.path s.time.now = true ↔ level s.time.now ≤ allowance :=
    permits_iff_level hm hupdated
  refine ⟨_, exec_releaseTimeReached hr hs he hwait hrel, fun hheld => ?_, fun hen hfree hlevel hnone => ?_⟩
  · have hnowinner := winner_wake_eq_none hs hwait hrel halone hd
      (hheld.imp_right (Or.imp_right fun ⟨hlt, hother⟩ => ⟨fun h => (hpermits.1 h).not_gt hlt, hother⟩))
    have harbitrate : s.arbitrate e.path = s.makeEligible e.ticket :=
      (arbitrateTimes_of_no_winner hnowinner _).trans (wake_eq_makeEligible hs he hwait hrel halone)
    obtain ⟨hnow, hreached, hbefore⟩ := firstPermitted_permitTime st e.path s.time.now hd
    have hiff := permits_iff st e.path s.time.now hd
    rw [harbitrate]
    refine ⟨st.permitTime e.path s.time.now, settle_makeEligible_eq hs he hwait hd, hnow,
      (level_le_iff hm hupdated hnow _).2 hreached, fun u hlo hhi => ?_, fun heq => ?_, fun hne => ?_⟩
    · exact not_le.1 fun h => (hbefore u hlo hhi).not_ge ((level_le_iff hm hupdated hlo _).1 h)
    · rw [makeEligible_of_mem hs he hwait, if_pos (hiff.2 heq.le)]
      exact ⟨rfl, statusBecomes_of_status rfl⟩
    · rw [makeEligible_of_mem hs he hwait, if_neg fun h => hne (Nat.le_antisymm (hiff.1 h) hnow)]
      exact ⟨fun j => count_latch_deferred_stream (s.withWoken e) e.stream j,
        statusBecomes_settle rfl (by simp [State.withWoken])⟩
  · exact arbitrate_grants_alone hs he hwait hrel halone (ha ▸ rfl) hd hen hfree (hpermits.2 hlevel) hnone

end Sys2Proof.Machine
end

-- The writes of a path's settings (R89, R90, R100, R118).
section
namespace Sys2Proof.Machine

open Sys2Proof

/-- A value of a pair with one value replaced, by cases. -/
theorem pathPair_get_set_eq {α : Type} (x : PathPair α) (p q : Path) (v : α) :
    (x.set p v).get q = if q = p then v else x.get q := by
  split
  · next h => rw [h, PathPair.get_set]
  · next h => exact PathPair.get_set_ne x v h

/-! ### What the grants of an event leave of the paths' enables (R100) -/

/-- The enables of the two paths. -/
def State.enabled (s : State) : Path → Bool := fun p => (s.paths.get p).enable

theorem enabled_of_paths {s t : State} (h : t.paths = s.paths) : t.enabled = s.enabled :=
  congrArg (fun x p => (PathPair.get x p).enable) h

theorem enabled_of_beside {s t : State} (h : t.beside = s.beside) : t.enabled = s.enabled :=
  enabled_of_paths (paths_of_beside h)

/-- A change of a path that keeps its enable. -/
theorem updPath_enabled (s : State) (p : Path) (f : PathState → PathState) (hf : ∀ x, (f x).enable = x.enable) :
    (s.updPath p f).enabled = s.enabled := by
  funext q
  simp only [State.enabled, updPath_paths, pathPair_get_set_eq]
  split
  · next h => rw [hf, h]
  · rfl

section Enabled

variable (s : State)

theorem echoPush_enabled (p : Path) (x : EchoEntry) : (s.echoPush p x).enabled = s.enabled := by
  have hroom : (s.echoMakeRoom p).enabled = s.enabled := by
    unfold State.echoMakeRoom
    split
    · exact updPath_enabled s p (fun y => { y with echoQueue := y.echoQueue.tail }) fun _ => rfl
    · rfl
  exact (updPath_enabled _ p (fun y => { y with echoQueue := y.echoQueue ++ [x] }) fun _ => rfl).trans hroom

theorem handOff_enabled (e : HeldRead) (a : Assigned) (d : Decision) :
    (s.handOff e a d).enabled = s.enabled := by
  have hpush (x : EchoEntry) : (((s.updPath e.path fun y =>
      { y with busyUntil := s.time.now + y.wireTime (s.stream e.stream).active.segLen }).chargeMeter e.stream
        e.path).echoPush e.path x).enabled = s.enabled :=
    (echoPush_enabled _ e.path x).trans ((enabled_of_beside (chargeMeter_beside _ e.stream e.path)).trans
      (updPath_enabled s e.path _ fun _ => rfl))
  simp only [State.handOff]
  split
  · split
    · split
      · exact (enabled_of_beside (marginSample_beside _ _ _)).trans (hpush _)
      · exact hpush _
    · exact hpush _
  · rfl

theorem decideGrant_paths (e : HeldRead) (a : Assigned) : (s.decideGrant e a).2.paths = s.paths := by
  have hpresent : (s.presentGrant e.stream e.path a.line a.seg).2.2.paths = s.paths := by
    unfold State.presentGrant
    dsimp only
    split <;> rfl
  simp only [State.decideGrant]
  split
  · split <;> simp_all
  · rfl

theorem noteUnderrun_beside (i : StreamId) (o : ReadOutcome) : (s.noteUnderrun i o).beside = s.beside := by
  unfold State.noteUnderrun
  split
  · rfl
  · rw [count_beside, latch_beside]

theorem forwardGranted_paths (e : HeldRead) (o : ReadOutcome) : (s.forwardGranted e o).paths = s.paths := by
  unfold State.forwardGranted State.forwardRead
  split
  · split <;> rfl
  · rfl

theorem decided_enabled (e : HeldRead) (a : Assigned) : (s.decided e a).enabled = s.enabled := by
  have hwinner (t : State) (one : Bool) :
      (t.updPath e.path fun x => x.setWinner one e.stream).enabled = t.enabled :=
    updPath_enabled t e.path _ fun x => by cases one <;> rfl
  calc (s.decided e a).enabled
      = _ := enabled_of_paths (forwardGranted_paths _ e _)
    _ = _ := enabled_of_beside ((noteUnderrun_beside _ e.stream _).trans (count_beside _ _ _))
    _ = _ := hwinner _ _
    _ = s.enabled := enabled_of_paths (decideGrant_paths s e a)

/-- R74: a grant leaves both paths' enables. -/
theorem grant_enabled (e : HeldRead) : (s.grant e).enabled = s.enabled := by
  cases ha : e.assigned with
  | none => rw [State.grant, ha]
  | some a =>
    rw [grant_eq ha]
    exact (enabled_of_beside (consume_beside _ _)).trans ((handOff_enabled _ e a _).trans (decided_enabled s e a))

/-- R73: the passage of an entry to ELIGIBLE leaves what `State.beside` gathers, in any state. -/
theorem makeEligible_keeps_beside (u : Nat) : (s.makeEligible u).beside = s.beside := by
  unfold State.makeEligible
  split
  · rfl
  · split
    · rw [testPermit_beside, updEntry_beside]
    · rfl

theorem arbitrateTimes_enabled (p : Path) (n : Nat) : (s.arbitrateTimes p n).enabled = s.enabled := by
  induction n generalizing s with
  | zero => rfl
  | succ n ih =>
    rw [State.arbitrateTimes]
    split
    · rfl
    · next e _ => exact (ih (s.grant e)).trans (grant_enabled s e)

/-- R100: the grants of an event leave both paths' enables. -/
theorem arbitrate_enabled (p : Path) : (s.arbitrate p).enabled = s.enabled := by
  have hwake : (s.wake p).beside = s.beside := 
    foldl_keeps (fun t (e : HeldRead) => makeEligible_keeps_beside t e.ticket) _ s
  exact (arbitrateTimes_enabled _ p _).trans (enabled_of_beside hwake)

end Enabled

/-- R99, R100: where no entry of a path is ELIGIBLE or due, its arbiter has nothing to grant. -/
theorem arbitrate_of_none_eligible {s : State} {p : Path}
    (hel : ∀ e ∈ s.gate.held, e.path = p → e.phase ≠ .eligible) (hdue : NoneDue s p) : s.arbitrate p = s := by
  have hnone : s.winner p = none := winner_eq_none fun x ⟨hx, hphase, _⟩ hp => hel x hx hp hphase
  rw [State.arbitrate, wake_of_noneDue hdue]
  exact arbitrateTimes_of_no_winner hnone _

/-! ### A DATA word that changes the paths' settings -/

/-- R152: a DATA word under a selection, given the clamped value and what its owner makes of it. -/
theorem event_takeData {s o : State} {v : BitVec 64} {r : ResultCode} {value : Nat} (hr : s.inReset = false)
    (hsel : s.decoder.sel.target ≠ .none) (hvalue : clampData s.refRec s.decoder.sel v.toNat = value)
    (hoffer : (s.noteClamp (decide (value ≠ v.toNat))).offer s.decoder.sel value = (r, o)) :
    event (·.takeData v) s = settle s
      ((o.withDecoder { o.decoder with sel := s.decoder.sel.advance }).endCommand r fun e =>
        e.withData s.decoder.sel r value (decide (value ≠ v.toNat))) := by
  rw [event_live hr, takeData_selected s v hsel, State.takeSelectedData, hvalue, hoffer]

/-- R152: the state with given path settings, a clamped write reported. -/
def State.withPathsNoted (s : State) (x : PathPair PathState) (clamped : Bool) : State :=
  { s.noteClamp clamped with paths := x }

theorem updPath_noteClamp (s : State) (c : Bool) (p : Path) (f : PathState → PathState) :
    (s.noteClamp c).updPath p f = s.withPathsNoted (s.paths.set p (f (s.paths.get p))) c := by
  cases c <;> rfl

theorem noteClamp_eq_withPathsNoted (s : State) (c : Bool) : s.noteClamp c = s.withPathsNoted s.paths c := by
  cases c <;> rfl

/-- R152: what a DATA word leaves whose owner changes the paths' settings alone. -/
theorem event_takeData_paths {s : State} {v : BitVec 64} {r : ResultCode} {value : Nat} {x : PathPair PathState}
    (hr : s.inReset = false) (hsel : s.decoder.sel.target ≠ .none)
    (hvalue : clampData s.refRec s.decoder.sel v.toNat = value)
    (hoffer : (s.noteClamp (decide (value ≠ v.toNat))).offer s.decoder.sel value =
      (r, s.withPathsNoted x (decide (value ≠ v.toNat)))) :
    ∃ t, event (·.takeData v) s = t ∧
      t = { s with decoder := t.decoder, paths := t.paths, status := t.status } ∧ t.paths = x ∧
      DataTaken s t r value (decide (value ≠ v.toNat)) [] := by
  refine ⟨_, event_takeData hr hsel hvalue hoffer, ?_, ?_,
    dataTaken_end (noteClamp_decoder s _) (noteClamp_events s _) (noteClamp_counters s _) (noteClamp_mask s _)
      (noteClamp_summaryMask s _) fun y => ?_⟩
  · rw [settle_frame, endCommand_frame, State.withPathsNoted, noteClamp_frame]
    rfl
  · rw [settle_paths, endCommand_paths]
    rfl
  · exact (mem_noteClamp s _ y).trans (by simp)

/-! ### The enable (R90) -/

/-- R90: a path is in use where a stream that is not IDLE has it in its active copy's path set. -/
theorem pathInUse_iff (s : State) (p : Path) :
    s.pathInUse p = true ↔ ∃ i, (s.stream i).state ≠ .idle ∧ inSet (s.stream i).active.pathSet p := by
  simp [State.pathInUse, inSet_iff_has]

@[simp] theorem noteClamp_pathInUse (s : State) (c : Bool) (p : Path) :
    (s.noteClamp c).pathInUse p = s.pathInUse p := by
  cases c <;> rfl

/-- R90: the result of a disabling write. -/
def State.disableResult (s : State) (p : Path) : ResultCode := if s.pathInUse p then .busy else .done

/-- R90: the path settings after a disabling write. -/
def State.disabledPaths (s : State) (p : Path) : PathPair PathState :=
  if s.pathInUse p then s.paths else s.paths.set p { s.paths.get p with enable := false }

theorem disabledPaths_get (s : State) (p q : Path) :
    (s.disabledPaths p).get q =
      if q = p ∧ s.disableResult p = .done then { s.paths.get q with enable := false } else s.paths.get q := by
  unfold State.disabledPaths State.disableResult
  by_cases huse : s.pathInUse p
  · simp [huse]
  · simp only [huse, Bool.false_eq_true, if_false, and_true, pathPair_get_set_eq]
    split
    · next h => rw [h]
    · rfl

/-- R90: what the owner makes of a disabling write. -/
theorem offer_disable {s : State} {p : Path} (hsel : s.decoder.sel = { target := .path p, next := 0 }) (c : Bool) :
    (s.noteClamp c).offer s.decoder.sel 0 = (s.disableResult p, s.withPathsNoted (s.disabledPaths p) c) := by
  have hown : (s.noteClamp c).offer s.decoder.sel 0 = (s.noteClamp c).ownEnable p 0 := by rw [hsel]; rfl
  rw [hown, State.ownEnable, if_pos rfl, noteClamp_pathInUse, State.disableResult, State.disabledPaths]
  split
  · rw [noteClamp_eq_withPathsNoted]
  · rw [updPath_noteClamp]

/-- R90: the state with the path enabled, before its arbiter grants. -/
def State.enabling (s : State) (c : Bool) (p : Path) : State :=
  s.withPathsNoted (s.paths.set p { s.paths.get p with enable := true }) c

/-- R90, R100: what the owner makes of an enabling write. -/
theorem offer_enable {s : State} {p : Path} (hsel : s.decoder.sel = { target := .path p, next := 0 }) (c : Bool) :
    (s.noteClamp c).offer s.decoder.sel 1 = (.done, (s.enabling c p).arbitrate p) := by
  have hown : (s.noteClamp c).offer s.decoder.sel 1 = (s.noteClamp c).ownEnable p 1 := by rw [hsel]; rfl
  rw [hown, State.ownEnable, if_neg Nat.one_ne_zero, updPath_noteClamp]
  rfl

/-- Table 5-1: a value other than 0 is stored in enable as 1, and 1 alone is unclamped. -/
theorem clampPathField_enable {v : BitVec 64} (hv : v ≠ 0) :
    clampPathField 0 v.toNat = 1 ∧ decide (1 ≠ v.toNat) = decide (v ≠ 1) := by
  have hpos : v.toNat ≠ 0 := fun h => hv (BitVec.eq_of_toNat_eq h)
  have hone : 1 ≠ v.toNat ↔ v ≠ 1 := by rw [ne_comm, ne_eq, ne_eq, ← BitVec.toNat_inj]; rfl
  exact ⟨by simp only [clampPathField, clamp]; omega, decide_eq_decide.2 hone⟩

/-- R90: a disabling write, by what it leaves. -/
theorem disablingWrite {s : State} {p : Path} (hr : s.inReset = false)
    (hsel : s.decoder.sel = { target := .path p, next := 0 }) :
    ∃ t, exec (.pathEnableWrite 0) s = .next t ∧
      t = { s with decoder := t.decoder, paths := t.paths, status := t.status } ∧ t.paths = s.disabledPaths p ∧
      DataTaken s t (s.disableResult p) 0 false [] := by
  have hvalue : clampData s.refRec s.decoder.sel (0#64).toNat = 0 := by rw [hsel]; rfl
  obtain ⟨t, ht, hleft⟩ := event_takeData_paths hr (by simp [hsel]) hvalue (offer_disable hsel _)
  exact ⟨t, congrArg Host.Outcome.next ht, hleft⟩

section Enabling

variable {v : BitVec 64} {s : State} {p : Path} (hr : s.inReset = false) (hv : v ≠ 0)
  (hsel : s.decoder.sel = { target := .path p, next := 0 })
include hr hv hsel

/-- R90, R100: an enabling write, whatever the path's arbiter grants. -/
theorem enablingWrite : ∃ t, exec (.pathEnableWrite v) s = .next t ∧ (t.paths.get p).enable = true ∧
    t.decoder =
      { sel := { target := .path p, next := 1 }
        echo := { (s.decoder.echo.withData s.decoder.sel .done 1 (decide (v ≠ 1))) with
          count := s.decoder.echo.count + 1 } } := by
  obtain ⟨hclamp, hunclamped⟩ := clampPathField_enable hv
  have hvalue : clampData s.refRec s.decoder.sel v.toNat = 1 := by rw [hsel]; exact hclamp
  have hevent := event_takeData hr (by simp [hsel]) hvalue (offer_enable hsel _)
  have hdecoder (c : Bool) : ((s.enabling c p).arbitrate p).decoder = s.decoder :=
    (congrArg Still.decoder (arbitrate_still (s.enabling c p) p)).trans (noteClamp_decoder s c)
  have henable (c : Bool) : (((s.enabling c p).arbitrate p).paths.get p).enable = true := by
    refine (congrFun (arbitrate_enabled (s.enabling c p) p) p).trans ?_
    simp [State.enabled, State.enabling, State.withPathsNoted]
  refine ⟨_, congrArg Host.Outcome.next hevent, ?_, ?_⟩
  · rw [settle_paths, endCommand_paths]
    exact henable _
  · rw [settle_decoder, endCommand_decoder, withDecoder_decoder, hdecoder, hunclamped, hsel]
    rfl

/-- R90: an enabling write where the path's arbiter has nothing to grant. -/
theorem enablingWrite_quiet (hel : ∀ e ∈ s.gate.held, e.path = p → e.phase ≠ .eligible) (hdue : NoneDue s p) :
    ∃ t, exec (.pathEnableWrite v) s = .next t ∧
      t = { s with decoder := t.decoder, paths := t.paths, status := t.status } ∧
      t.paths = s.paths.set p { s.paths.get p with enable := true } ∧
      DataTaken s t .done 1 (decide (v ≠ 1)) [] := by
  obtain ⟨hclamp, hunclamped⟩ := clampPathField_enable hv
  have hvalue : clampData s.refRec s.decoder.sel v.toNat = 1 := by rw [hsel]; exact hclamp
  have hquiet (c : Bool) : (s.enabling c p).arbitrate p = s.enabling c p := by
    have hgate : (s.enabling c p).gate = s.gate := noteClamp_gate s c
    have htime : (s.enabling c p).time = s.time := noteClamp_time s c
    refine arbitrate_of_none_eligible (hgate ▸ hel) ?_
    unfold NoneDue
    rwa [hgate, htime]
  obtain ⟨t, ht, hleft⟩ := event_takeData_paths hr (by simp [hsel]) hvalue
    ((offer_enable hsel _).trans (congrArg (Prod.mk _) (hquiet _)))
  exact ⟨t, congrArg Host.Outcome.next ht, hunclamped ▸ hleft⟩

end Enabling

/-- Settles O11: a disabling write by whether the path is in use, an enabling write by what the path's arbiter may
grant. -/
theorem pathEnableWriteChecksUse : Obligations.PathEnableWriteChecksUse := by
  constructor
  · intro s p hr hsel busy
    have hbusy : s.pathInUse p = true ↔ busy := by
      simp only [pathInUse_iff, inSet, busy, and_comm (a := p = _)]
    obtain ⟨t, hexec, hframe, hpaths, hdata⟩ := disablingWrite hr hsel
    exact ⟨t, s.disableResult p, hexec, hframe, fun hb => if_pos (hbusy.2 hb), fun hb => if_neg (mt hbusy.1 hb),
      fun q => hpaths ▸ disabledPaths_get s p q, hdata⟩
  · intro v s p hr hv hsel
    obtain ⟨t, hexec, henable, hdecoder⟩ := enablingWrite hr hv hsel
    refine ⟨t, hexec, henable, ?_, ?_, ?_, ?_, fun hel hdue => ?_⟩
    · rw [hdecoder]
    · rw [hdecoder]; rfl
    · rw [hdecoder]; rfl
    · rw [hdecoder]; rfl
    · obtain ⟨u, hexec', hframe, hpaths, hdata⟩ := enablingWrite_quiet hr hv hsel hel hdue
      obtain rfl : t = u := Host.Outcome.next.inj (hexec.symm.trans hexec')
      refine ⟨hframe, fun q => ?_, hdata⟩
      rw [hpaths, pathPair_get_set_eq]
      split
      · next h => rw [h]
      · rfl

/-! ### The other settings (R89, R118) -/

/-- Tables 5-1 and 7-1: the value a path's field stores, by the range of the field. -/
theorem clampPathField_eq_store {k : Nat} {range : FieldRange} (h : pathRanges[k]? = some range) (v : Nat) :
    clampPathField k v = range.store v := by
  have hstore (lo hi : Nat) (hle : lo ≤ hi) : clamp lo hi v = FieldRange.store ⟨lo, hi, 1⟩ v := by
    simp only [clamp, FieldRange.store, Nat.div_one, Nat.mul_one]
    split
    · omega
    · split <;> omega
  match k, h with
  | 0, h | 1, h | 2, h | 3, h | 4, h =>
    obtain rfl := Option.some.inj h
    exact hstore _ _ (by decide)

/-- R89, R118: a value stored in a field other than enable changes the four settings beside enable at most. -/
theorem setField_frame (y : PathState) (k v : Nat) :
    y.setField k v =
      { y with
        byteTime := (y.setField k v).byteTime, overhead := (y.setField k v).overhead
        leadAuto := (y.setField k v).leadAuto, lead := (y.setField k v).lead } := by
  unfold PathState.setField
  split <;> rfl

/-- R89, R118: a value that the field can hold, stored in a field other than enable, is the number of that field. -/
theorem setField_numbers (y : PathState) {k : Nat} (hk : 1 ≤ k) (hlast : k ≤ 4) (v : Nat) :
    (y.setField k (clampPathField k v)).numbers = y.numbers.set k (clampPathField k v) := by
  match k, hk, hlast with
  | 1, _, _ | 2, _, _ | 4, _, _ => rfl
  | 3, _, _ =>
    have hbit : bit (clampPathField 3 v != 0) = clampPathField 3 v := by
      have hle : clampPathField 3 v ≤ 1 := by simp only [clampPathField, clamp]; omega
      interval_cases clampPathField 3 v <;> rfl
    simp [PathState.setField, PathState.numbers, hbit]

/-- Settles O12: the owner of the field stores the clamped value, whichever command brings the word. -/
theorem pathSettingStoresClampedValue : Obligations.PathSettingStoresClampedValue := by
  intro c v s p range hr hsel hfirst hrange hfield hlead
  obtain ⟨k, hk⟩ : ∃ k, s.decoder.sel.next = k := ⟨_, rfl⟩
  rw [hk] at hfirst hrange hfield hlead
  have hlast : k ≤ 4 := by
    obtain ⟨hlt, _⟩ := List.getElem?_eq_some_iff.1 hrange
    exact Nat.le_of_lt_succ hlt
  have hstore : clampPathField k v.toNat = range.store v.toNat := clampPathField_eq_store hrange _
  have hexec : exec c s = .next (event (·.takeData v) s) := by
    rcases Nat.lt_or_ge 2 k with h | h
    · rw [hlead h]; rfl
    · rw [hfield h]; rfl
  have hvalue : clampData s.refRec s.decoder.sel v.toNat = range.store v.toNat := by
    rw [clampData, hsel, hk]
    exact hstore
  let y := (s.paths.get p).setField k (range.store v.toNat)
  have hoffer (b : Bool) : (s.noteClamp b).offer s.decoder.sel (range.store v.toNat) =
      (.done, s.withPathsNoted (s.paths.set p y) b) := by
    rw [State.offer, hsel]
    simp only [State.ownPath, hk, if_neg (Nat.one_le_iff_ne_zero.1 hfirst), updPath_noteClamp, y]
  obtain ⟨t, ht, hframe, hpaths, hdata⟩ := event_takeData_paths hr (by simp [hsel]) hvalue (hoffer _)
  refine ⟨t, y, hexec.trans (congrArg Host.Outcome.next ht), hframe, fun q => ?_, ?_, hdata⟩
  · rw [hpaths, pathPair_get_set_eq]
    split
    · next h => rw [h]; exact setField_frame _ _ _
    · rfl
  · rw [hpaths, PathPair.get_set, hk, ← hstore]
    simp only [y, ← hstore]
    exact setField_numbers _ hfirst hlast _

end Sys2Proof.Machine
end

-- The time base over a step (R105, R106, R113).
section
namespace Sys2Proof.Machine

open Sys2Proof

/-! ### The operations that leave all outside the data path -/

section Still

variable (s : State)

@[simp] theorem actArm_still (i : StreamId) : (s.actArm i).2.still = s.still := by
  unfold State.actArm; split <;> simp
@[simp] theorem actStop_still (i : StreamId) : (s.actStop i).2.still = s.still := by
  unfold State.actStop; split <;> simp
@[simp] theorem actApply_still (i : StreamId) : (s.actApply i).2.still = s.still := by
  unfold State.actApply
  dsimp only
  split
  · rfl
  · split <;> rfl
theorem eachStream_still {f : StreamId → State → State} (hf : ∀ i t, (f i t).still = t.still) :
    (s.eachStream f).still = s.still :=
  foldl_keeps (fun t i => hf i t) _ s
@[simp] theorem actAbortAll_still : s.actAbortAll.2.still = s.still := by
  unfold State.actAbortAll
  dsimp only
  exact eachStream_still s fun i t => abortStream_still t i
@[simp] theorem actClear_still (n : Nat) : (s.actClear n).2.still = s.still := by
  unfold State.actClear
  split
  · rfl
  · split
    · rfl
    · split
      · exact (clearDeviceCounters_still _).trans (eachStream_still s fun i t => clearStreamCounters_still t i)
      · rfl
@[simp] theorem post_still : s.post.still = s.still := by
  unfold State.post
  split
  · next r _ _ _ => cases r <;> rfl
  · rfl
@[simp] theorem clearFlags_still (r : RecordId) (v : BitVec 64) : (s.clearFlags r v).still = s.still := by
  cases r <;> rfl
@[simp] theorem returnFill_still (x : FillItem) (r : Response) : (s.returnFill x r).still = s.still := by
  unfold State.returnFill
  dsimp only
  split
  · exact foldl_keeps (fun t k => clearFlags_still t k _) _ s
  · rfl
@[simp] theorem returnReleased_still (u : Nat) (r : Response) : (s.returnReleased u r).still = s.still := by
  unfold State.returnReleased
  split
  · rfl
  · dsimp only
    split <;> simp
@[simp] theorem memoryReturn_still (n : Nat) (r : Response) : (s.memoryReturn n r).still = s.still := by
  unfold State.memoryReturn
  split
  · rfl
  · dsimp only
    split <;> simp
@[simp] theorem completeAnswer_still (u : Nat) : (s.completeAnswer u).still = s.still := by
  unfold State.completeAnswer
  split
  · rfl
  · split <;> rfl
@[simp] theorem presentSend_still (tag : Tag) (addr : Addr) (acc : Access) :
    (s.presentSend tag addr acc).still = s.still := by
  unfold State.presentSend State.takeSend State.noteStray
  split
  · split <;> simp
  · simp

end Still

/-! ### What command words leave of the time base -/

theorem time_of_still {s t : State} (h : t.still = s.still) : t.time = s.time := congrArg Still.time h

section Time

variable (s : State)

@[simp] theorem actLoadEpoch_time : s.actLoadEpoch.2.time = s.time := by
  simp only [State.actLoadEpoch]
  split
  · split <;> rfl
  · rfl
  · rfl
  · rfl
@[simp] theorem enableRef_time : s.enableRef.time = s.time := by
  unfold State.enableRef; dsimp only; split <;> rfl
@[simp] theorem disableRef_time : s.disableRef.time = s.time := by
  unfold State.disableRef; dsimp only; split <;> rfl
@[simp] theorem pulseTimeout_time : s.pulseTimeout.time = s.time := by
  unfold State.pulseTimeout; split <;> rfl

theorem onStream_time (n : Nat) {f : State → StreamId → ResultCode × State}
    (hf : ∀ i, (f s i).2.time = s.time) : (s.onStream n f).2.time = s.time := by
  unfold State.onStream
  split
  · exact hf _
  · rfl

theorem onZero_time (n : Nat) {f : State → ResultCode × State} (hf : (f s).2.time = s.time) :
    (s.onZero n f).2.time = s.time := by
  unfold State.onZero
  split
  · exact hf
  · rfl

/-- R154: no action moves the time base. -/
theorem act_time (code operand : Nat) : (s.act code operand).2.time = s.time := by
  unfold State.act
  split
  · exact onStream_time s _ fun i => time_of_still (actArm_still s i)
  · exact onStream_time s _ fun i => time_of_still (actStop_still s i)
  · exact onStream_time s _ fun i => time_of_still (abortStream_still s i)
  · exact onStream_time s _ fun i => time_of_still (actApply_still s i)
  · exact time_of_still (actClear_still s operand)
  · exact onZero_time s _ (time_of_still (actAbortAll_still s))
  · exact onZero_time s _ (actLoadEpoch_time s)
  · exact onZero_time s _ rfl
  · rfl

@[simp] theorem takeAction_time (w : BitVec 64) : (s.takeAction w).time = s.time := by
  unfold State.takeAction
  dsimp only
  rw [endCommand_time]
  split
  · exact act_time s _ _
  · rfl

@[simp] theorem takeSelect_time (w : BitVec 64) : (s.takeSelect w).time = s.time := by
  unfold State.takeSelect; split <;> simp

@[simp] theorem takePartial_time (w : CommandWord) : (s.takePartial w).time = s.time := by
  unfold State.takePartial; split <;> simp

/-- R152: no field that a DATA word is directed to moves the time base. -/
theorem offer_time (sel : Selection) (v : Nat) : (s.offer sel v).2.time = s.time := by
  unfold State.offer
  split
  · rfl
  · rfl
  · unfold State.ownCarve
    split
    · split
      · rfl
      · split <;> rfl
    · rfl
  · unfold State.ownTag
    split <;> rfl
  · unfold State.ownPath State.ownEnable
    split
    · split
      · split <;> rfl
      · exact time_of_still (arbitrate_still _ _)
    · rfl
  · unfold State.ownReference
    split
    · split <;> simp
    · rfl
  · unfold State.ownMasks
    split
    · rfl
    · split <;> rfl

@[simp] theorem takeData_time (w : BitVec 64) : (s.takeData w).time = s.time := by
  unfold State.takeData State.takeSelectedData
  dsimp only
  split
  · exact endCommand_time _ _ _
  · rw [endCommand_time, withDecoder_time, offer_time, noteClamp_time]

@[simp] theorem takeWord_time (w : CommandWord) (v : BitVec 64) : (s.takeWord w v).time = s.time := by
  cases w with
  | select => exact takeSelect_time s v
  | data => exact takeData_time s v
  | action => exact takeAction_time s v

theorem event_time {f : State → State} (hf : (f s).time = s.time) : (event f s).time = s.time := by
  unfold event
  split
  · rfl
  · exact hf

@[simp] theorem takeCommand_time (a : Nat) (d : List Byte) (w : CommandWord) :
    (s.takeCommand a d w).time = s.time := by
  unfold State.takeCommand
  split
  · exact event_time s (takeWord_time s w _)
  · split
    · exact event_time s (takePartial_time s w)
    · rfl

@[simp] theorem takeFill_time (a : Addr) (acc : Access) : (s.takeFill a acc).time = s.time := by
  unfold State.takeFill State.fillAction
  dsimp only [withPorts_time]
  split
  · split
    · exact foldl_keeps (fun t w => takeCommand_time t _ _ w) _ s
    · rfl
  · split
    · exact event_time s (time_of_still (accountAll_still s _ _))
    · rfl
  · rfl
  · rfl

end Time

/-! ### The pulse and the advance (R105, R113) -/

theorem allIdle_iff (s : State) : s.allIdle = true ↔ ∀ i, (s.stream i).state = .idle := by
  simp [State.allIdle]

/-- R114: the judgement of a pulse changes the Reference Lock and the Status Writer alone. -/
theorem judgeAcquiring_frame (s : State) (err : Int) : s.judgeAcquiring err =
    { s with lock := (s.judgeAcquiring err).lock, status := (s.judgeAcquiring err).status } := by
  unfold State.judgeAcquiring
  dsimp only
  generalize (if err.natAbs ≤ s.refRec.lockWindow then s.lock.good + 1 else 0) = good
  split <;> rfl

/-- As `judgeAcquiring_frame`, in LOCKED. -/
theorem judgeLocked_frame (s : State) (err : Int) : s.judgeLocked err =
    { s with lock := (s.judgeLocked err).lock, status := (s.judgeLocked err).status } := by
  unfold State.judgeLocked; split <;> rfl

/-- R112 to R114: a new pulse for which no step is taken changes the Reference Lock and the Status Writer alone. -/
theorem newPulse_frame {s : State} {err e : Int} (h : s.lock.state = .acquiring → s.stepTaken err e = false) :
    s.newPulse err e =
      { s with lock := (s.newPulse err e).lock, status := (s.newPulse err e).status } := by
  unfold State.newPulse
  split
  · rfl
  · next hs =>
    rw [h hs]
    exact judgeAcquiring_frame (s.piPulse err) err
  · exact judgeLocked_frame (s.piPulse err) err
  · rfl

/-- R113: no step is taken while a stream is in a state other than IDLE. -/
theorem stepTaken_of_onAir {s : State} (h : ∃ i, (s.stream i).state ≠ .idle) (err e : Int) :
    s.stepTaken err e = false := by
  obtain ⟨i, hi⟩ := h
  have hidle : s.allIdle = false := Bool.eq_false_iff.2 fun hall => hi ((allIdle_iff s).1 hall i)
  simp [State.stepTaken, hidle]

/-- R113: no pulse moves the time base while a stream is in a state other than IDLE. -/
theorem refPulse_time_of_onAir {s : State} (h : ∃ i, (s.stream i).state ≠ .idle) :
    s.refPulse.time = s.time := by
  unfold State.refPulse
  split
  · rfl
  · rfl
  · dsimp only
    split
    · simp
    · rw [newPulse_frame fun _ => stepTaken_of_onAir (by simpa using h) _ _]
      rfl

/-- R106: while a stream is in a state other than IDLE, the release of the reset line is the only command that moves
the time base. -/
theorem exec_time_of_onAir {c : Instr} {s t : State} (hair : ∃ i, (s.stream i).state ≠ .idle)
    (hc : ∀ x, c ≠ .resetRelease x) (h : exec c s = .next t) : t.time = s.time := by
  have still {f : State → State} (hf : (f s).still = s.still) : (event f s).time = s.time :=
    event_time s (time_of_still hf)
  cases c <;> cases h
  case resetAssert => rfl
  case resetRelease x => exact absurd rfl (hc x)
  case fillRequest a acc =>
    split
    · rfl
    · exact takeFill_time s a acc
  case partialCommandWord w => exact event_time s (takePartial_time s w)
  case select w => exact event_time s (takeSelect_time s w)
  case alignCompletion i => exact still (completeAlign_still s i)
  case firstFrameStart i => exact still (startFirstFrame_still s i)
  case frameStart i => exact still (nextFrameStart_still s i)
  case drainTimeout i => exact still (drainTimeout_still s i)
  case sendRequest tag addr acc => exact still (presentSend_still s tag addr acc)
  case stall => exact still (beginStall_still s)
  case releaseTimeReached u => exact still (releaseReached_still s u)
  case permitTimeReached u => exact still (permitReached_still s u)
  case pathFree p => exact still (arbitrate_still s p)
  case releasedReadReturn n r | memoryAnswer n r | readToClear n r => exact still (memoryReturn_still s n r)
  case answerComplete u => exact still (completeAnswer_still s u)
  case memoryPortGrant => exact still (memoryGrant_still s)
  case statusPosting =>
    split
    · rfl
    · exact time_of_still (post_still s)
  case refPulse => exact event_time s (refPulse_time_of_onAir hair)
  case pulseTimeout => exact event_time s (pulseTimeout_time s)
  case echoStrobe p tag => exact still (echoStrobe_still s p tag)
  case unknownActionCode | arm | stop | abort | abortAll | apply | clearCounters | loadEpoch | postDevice =>
    exact event_time s (takeAction_time s _)
  all_goals exact event_time s (takeData_time s _)

/-- R105: below its top value the time base does not go back in its advance. -/
theorem advance_now_le {x : TimeBase} {rate : Int} (hnow : x.now ≤ 2 ^ 64 - 1) : x.now ≤ (x.advance rate).now :=
  Nat.le_min.2 ⟨hnow, Nat.le_add_right _ _⟩

theorem tick_now_le {s : State} (hnow : s.time.now ≤ 2 ^ 64 - 1) : s.time.now ≤ s.tick.time.now := by
  unfold State.tick
  split
  · exact le_rfl
  · exact advance_now_le hnow

/-- Settles O57: the clock's tick advances, and of the commands the pulse alone could move the time base, by a step that
a stream on air forbids. -/
theorem timeNeverDecreasesOnAir : Obligations.TimeNeverDecreasesOnAir := by
  intro s t htime _ hfront hstep hair
  unfold step at hstep
  split at hstep
  · cases hstep
    exact tick_now_le htime.1
  · next c rest hpending =>
    have hc : ∀ x, c ≠ .resetRelease x := fun x hx => hfront x rest (hx ▸ hpending)
    exact (congrArg TimeBase.now (exec_time_of_onAir (s := s.withPending rest) hair hc hstep)).ge

end Sys2Proof.Machine
end

-- The tick of an idle block and the events it finds due (R105, notes/assumptions/1.md).
section
namespace Sys2Proof.Machine

open Sys2Proof

/-! ### The advance (R105) -/

/-- R105: away from its top value the time base advances by 1 + rate × 10^-9 ns, its fraction carried. -/
theorem advance_exact {x : TimeBase} {rate : Int} (hlo : -200000 ≤ rate) (hhi : rate ≤ 200000)
    (hfrac : x.frac < 1000000000) (hnow : x.now + 2 ≤ 2 ^ 64 - 1) :
    ((x.advance rate).now * 1000000000 + (x.advance rate).frac : Int) =
        x.now * 1000000000 + x.frac + 1000000000 + rate ∧ (x.advance rate).frac < 1000000000 := by
  simp only [TimeBase.advance, top64]
  omega

/-! ### The events that are due, by the state that makes them so -/

theorem mem_whenDue {b : Bool} {c d : Instr} : c ∈ whenDue b d ↔ b = true ∧ c = d := by
  cases b <;> simp [whenDue]

section Due

variable (s : State) (before : Nat)

theorem pulseDue_iff : s.pulseDue = true ↔ (s.lock.state = .acquiring ∨ s.lock.state = .locked) ∧
    ∃ d, s.lock.deadline = some d ∧ d ≤ s.time.now := by
  unfold State.pulseDue
  cases s.lock.deadline <;> simp

theorem alignDue_iff (i : StreamId) : s.alignDue i = true ↔
    (s.stream i).state = .aligning ∧ (s.stream i).tArm + 2000 ≤ s.time.now := by
  simp [State.alignDue]

theorem frameDue_isSome_iff (i : StreamId) : (s.frameDue i).isSome = true ↔
    ∃ x, (s.stream i).clockNext = some x ∧ x.start ≤ s.time.now := by
  unfold State.frameDue
  cases (s.stream i).clockNext with
  | none => simp
  | some x => by_cases hx : x.start ≤ s.time.now <;> simp [hx]

theorem drainDue_iff (i : StreamId) : s.drainDue i = true ↔ ∃ f, (s.stream i).fStop = some f ∧
    (f + 1) * (s.stream i).active.num / (s.stream i).active.den + (s.stream i).active.lateLimit ≤ s.time.now := by
  unfold State.drainDue Stream.drainDeadline
  cases (s.stream i).fStop <;> simp [frameAt]

theorem releaseDue_iff (e : HeldRead) :
    s.releaseDue e = true ↔ e.phase = .waiting ∧ e.release ≤ s.time.now := by
  simp [State.releaseDue]

theorem reaches_iff (b a u : Nat) : reaches b a u = true ↔ b < u ∧ u ≤ a := by simp [reaches]

theorem postingDue_iff : s.postingDue = true ↔ s.ports.statusSource = none ∧ s.status.updates ≠ [] := by
  simp [State.postingDue]

/-- The events of one stream that are due. -/
theorem mem_streamDue {c : Instr} {i : StreamId} : c ∈ s.streamDue i ↔
    (s.alignDue i = true ∧ c = .alignCompletion i) ∨
      (((s.stream i).state = .armed ∧ (s.frameDue i).isSome = true) ∧ c = .firstFrameStart i) ∨
      ((((s.stream i).state = .running ∨ (s.stream i).state = .draining) ∧ (s.frameDue i).isSome = true) ∧
        c = .frameStart i) ∨
      (((s.stream i).state = .draining ∧ s.drainDue i = true) ∧ c = .drainTimeout i) := by
  simp [State.streamDue, mem_whenDue]

/-- The events of one held entry that are due. -/
theorem mem_entryDue {c : Instr} {e : HeldRead} : c ∈ s.entryDue before e ↔
    (.releaseTimeReached e.ticket = c ∧ s.releaseDue e = true) ∨
      .permitTimeReached e.ticket = c ∧ e.phase = .eligible ∧
        ∃ u, e.permit = some u ∧ before < u ∧ u ≤ s.time.now := by
  unfold State.entryDue
  cases e.permit <;> simp [mem_whenDue, reaches_iff, eq_comm (a := c), and_comm]

theorem mem_pathDue {c : Instr} {p : Path} : c ∈ s.pathDue before p ↔
    (before < (s.paths.get p).busyUntil ∧ (s.paths.get p).busyUntil ≤ s.time.now) ∧ c = .pathFree p := by
  rw [State.pathDue, mem_whenDue, reaches_iff]

/-- The events that are due at an instant. -/
theorem mem_dueEvents {c : Instr} : c ∈ s.dueEvents before ↔
    (s.pulseDue = true ∧ c = .pulseTimeout) ∨ (∃ i, c ∈ s.streamDue i) ∨
      (∃ e ∈ s.gate.held, c ∈ s.entryDue before e) ∨ (∃ p, c ∈ s.pathDue before p) ∨
      (s.postingDue = true ∧ c = .statusPosting) := by
  have hpath : (∃ p, c ∈ s.pathDue before p) ↔ c ∈ s.pathDue before .A ∨ c ∈ s.pathDue before .B :=
    ⟨fun ⟨p, hp⟩ => by cases p with
      | A => exact .inl hp
      | B => exact .inr hp, fun h => h.elim (⟨.A, ·⟩) (⟨.B, ·⟩)⟩
  rw [hpath]
  simp [State.dueEvents, mem_whenDue, or_assoc]

end Due

/-- Settles O2: each command of the queue by the state that makes it due; the lists of `mem_dueEvents` name different
commands, so that each command's condition is that of its own list. -/
theorem emptyQueueTicks : Obligations.EmptyQueueTicks := by
  intro s hempty hr ⟨hlo, hhi, _⟩ hfrac hnow
  let u := s.withTime (s.time.advance s.lock.rate)
  have hstep : step s = .next (u.withPending (u.dueEvents s.time.now)) := by
    simp [step, hempty, State.tick, hr, u]
  obtain ⟨hexact, hlt⟩ := advance_exact hlo hhi hfrac hnow
  refine ⟨_, hstep, rfl, hexact, hlt, fun c => ?_⟩
  rw [withPending_pending, mem_dueEvents]
  simp only [mem_streamDue, mem_entryDue, mem_pathDue, pulseDue_iff, alignDue_iff, frameDue_isSome_iff, drainDue_iff,
    releaseDue_iff, postingDue_iff]
  cases c <;> simp [u]

end Sys2Proof.Machine
end

-- The Reference Lock (R107 to R116).
section
namespace Sys2Proof.Machine

open Sys2Proof

/-! ### What an event of the Reference Lock makes of a state, before it is closed -/

/-- From `s` to `o` the lock becomes `lock`, the device events and counters are as given, the records of `queued` are
queued, and nothing else changes. -/
structure LockMoved (s o : State) (lock : RefLock) (events : BitVec 10) (counters : Vector Nat 8)
    (queued : List RecordId) : Prop where
  frame : o = { s with lock := lock, status := o.status }
  events : o.status.events = events
  counters : o.status.counters = counters
  mask : o.status.mask = s.status.mask
  summaryMask : o.status.summaryMask = s.status.summaryMask
  updates : ∀ r, r ∈ o.status.updates ↔ r ∈ s.status.updates ∨ r ∈ queued

section LockMoved

variable {s o : State} {lock : RefLock} {events : BitVec 10} {counters : Vector Nat 8} {queued : List RecordId}

theorem LockMoved.refl (s : State) : LockMoved s s s.lock s.status.events s.status.counters [] :=
  ⟨rfl, rfl, rfl, rfl, rfl, by simp⟩

theorem LockMoved.lock_eq (h : LockMoved s o lock events counters queued) : o.lock = lock := by rw [h.frame]

theorem LockMoved.settle_eq (h : LockMoved s o lock events counters queued) :
    settle s o = { s with lock := lock, status := (settle s o).status } := by
  rw [settle_frame, h.frame]

theorem LockMoved.closes (h : LockMoved s o lock events counters queued) :
    StatusBecomes s (settle s o) events counters queued :=
  ⟨h.events, h.counters, h.mask, h.summaryMask, settle_closes h.updates⟩

theorem LockMoved.frame_endCommand (h : LockMoved s o lock events counters queued)
    (f : CommandEcho → CommandEcho) :
    let t := settle s (o.endCommand .done f)
    t = { s with decoder := t.decoder, lock := t.lock, status := t.status } := by
  obtain ⟨x, rfl⟩ : ∃ x, o = { s with lock := lock, status := x } := ⟨_, h.frame⟩
  dsimp only
  rw [settle_frame, endCommand_frame]

/-- R150, R156: an action done on the Reference Lock, closed as a command word of result DONE. -/
theorem LockMoved.closes_endCommand (h : LockMoved s o lock events counters queued)
    (f : CommandEcho → CommandEcho) :
    StatusBecomes s (settle s (o.endCommand .done f)) events counters (.echo :: queued) := by
  refine ⟨h.events, h.counters, h.mask, h.summaryMask, settle_closes fun r => ?_⟩
  have hend : r ∈ (o.endCommand .done f).status.updates ↔ r ∈ o.status.updates ∨ r = .echo :=
    mem_queueRecord _
  rw [hend, h.updates, List.mem_cons, or_assoc, or_comm (a := r ∈ queued)]

/-! The operations of the Reference Lock, one after the other. -/

theorem LockMoved.withLock (h : LockMoved s o lock events counters queued) (x : RefLock) :
    LockMoved s (o.withLock x) x events counters queued := by
  refine ⟨?_, h.events, h.counters, h.mask, h.summaryMask, h.updates⟩
  obtain ⟨y, rfl⟩ : ∃ y, o = { s with lock := lock, status := y } := ⟨_, h.frame⟩
  rfl

theorem LockMoved.countDevice (h : LockMoved s o lock events counters queued) (c : DeviceCounter) :
    LockMoved s (o.countDevice c) lock events (bump counters (deviceCounterIndex c)) queued := by
  refine ⟨?_, h.events, (countDevice_counters o c).trans (by rw [h.counters]), h.mask, h.summaryMask, h.updates⟩
  obtain ⟨y, rfl⟩ : ∃ y, o = { s with lock := lock, status := y } := ⟨_, h.frame⟩
  rfl

theorem LockMoved.queueRecord (h : LockMoved s o lock events counters queued) (r : RecordId) :
    LockMoved s (o.queueRecord r) lock events counters (r :: queued) := by
  refine ⟨?_, h.events, h.counters, h.mask, h.summaryMask, fun x => ?_⟩
  · obtain ⟨y, rfl⟩ : ∃ y, o = { s with lock := lock, status := y } := ⟨_, h.frame⟩
    rfl
  · rw [mem_queueRecord, h.updates, List.mem_cons, or_assoc, or_comm (a := x ∈ queued)]

/-- A record queued already stays queued once. -/
theorem LockMoved.dedup {r : RecordId} (h : LockMoved s o lock events counters (r :: queued)) (hr : r ∈ queued) :
    LockMoved s o lock events counters queued := by
  refine ⟨h.frame, h.events, h.counters, h.mask, h.summaryMask, fun x => ?_⟩
  rw [h.updates, List.mem_cons, or_iff_right_of_imp fun hx : x = r => hx ▸ hr]

theorem LockMoved.latchDevice (h : LockMoved s o lock events counters queued) (e : DeviceEvent) :
    LockMoved s (o.latchDevice e) lock (events ||| deviceEventSet e) counters (.device :: queued) := by
  have hlatched : LockMoved s (o.withStatus { o.status with events := o.status.events ||| deviceEventSet e }) lock
      (events ||| deviceEventSet e) counters queued := by
    refine ⟨?_, by rw [← h.events]; rfl, h.counters, h.mask, h.summaryMask, h.updates⟩
    obtain ⟨y, rfl⟩ : ∃ y, o = { s with lock := lock, status := y } := ⟨_, h.frame⟩
    rfl
  exact hlatched.queueRecord .device

theorem LockMoved.setLockState (h : LockMoved s o lock events counters queued) (x : LockState) :
    LockMoved s (o.setLockState x) { lock with state := x, good := 0 } events counters (.device :: queued) := by
  rw [State.setLockState, h.lock_eq]
  exact (h.withLock _).queueRecord .device

end LockMoved

/-! ### The pulse timeout (R115) -/

/-- Settles O43: the pulse is due, and HOLDOVER is entered. -/
theorem pulseTimeoutEntersHoldover : Obligations.PulseTimeoutEntersHoldover := by
  intro s d hr hstate hdeadline hle
  have hmoved : LockMoved s s.pulseTimeout
      { s.lock with state := .holdover, good := 0, rate := s.lock.trim, deadline := none }
      (s.status.events ||| 4#10) s.status.counters [.device] := by
    rw [State.pulseTimeout, if_pos ((pulseDue_iff s).2 ⟨hstate, d, hdeadline, hle⟩)]
    exact ((((LockMoved.refl s).setLockState .holdover).withLock _).latchDevice .holdover).dedup
      (List.mem_singleton_self _)
  exact ⟨_, congrArg Host.Outcome.next (event_live hr _), hmoved.settle_eq, hmoved.closes⟩

/-! ### The deadline at an entry to ACQUIRING (R115) -/

/-- R115: the deadline lies half an interval past the first expected pulse that is not earlier than now. -/
theorem entryDeadline_spec (epoch now : Nat) {interval : Nat} (h : 0 < interval) :
    ∃ j : Int, (now : Int) ≤ epoch + j * interval ∧ (epoch : Int) + j * interval < now + interval ∧
      (entryDeadline epoch now interval : Int) = epoch + j * interval + (interval / 2 : Nat) := by
  have hpos : (0 : Int) < interval := Int.natCast_pos.2 h
  let q : Int := (-((now : Int) - epoch)).fdiv interval
  have hq : q = (-((now : Int) - epoch)) / interval := Int.fdiv_eq_ediv_of_nonneg _ hpos.le
  have hle : q * interval ≤ -((now : Int) - epoch) := hq ▸ Int.ediv_mul_le _ hpos.ne'
  have hlt : -((now : Int) - epoch) < (q + 1) * interval := hq ▸ Int.lt_ediv_add_one_mul_self _ hpos
  rw [add_mul, one_mul] at hlt
  refine ⟨-q, ?_, ?_, ?_⟩
  · rw [neg_mul]; omega
  · rw [neg_mul]; omega
  · have hdef : entryDeadline epoch now interval =
        ((epoch : Int) + -q * interval + (interval / 2 : Nat)).toNat := rfl
    rw [hdef, neg_mul]
    omega

/-! ### LOAD_EPOCH (R108) -/

/-- R108: the lock once the epoch is loaded, before it moves. -/
def State.epochLoaded (s : State) : RefLock :=
  { s.lock with epoch := some s.refRec.nextPulse, lastIndex := none, good := 0 }

/-- R108: LOAD_EPOCH enters ACQUIRING or stays there. -/
def State.EpochStarts (s : State) : Prop :=
  s.lock.state = .acquiring ∨ s.lock.state = .locked ∨ s.lock.state = .free ∧ s.refRec.enable = true

/-- R108: a LOAD_EPOCH that moves no lock state to ACQUIRING. -/
theorem actLoadEpoch_of_not_starts {s : State} (h : ¬s.EpochStarts) :
    LockMoved s s.actLoadEpoch.2 s.epochLoaded s.status.events s.status.counters [] := by
  unfold State.EpochStarts at h
  unfold State.actLoadEpoch
  cases hs : s.lock.state with
  | free =>
    have hen : s.refRec.enable = false := by simpa [hs] using h
    simp only [hen]
    exact (LockMoved.refl s).withLock _
  | acquiring => exact absurd (.inl hs) h
  | locked => exact absurd (.inr (.inl hs)) h
  | holdover => exact (LockMoved.refl s).withLock _

/-- R108, R115: a LOAD_EPOCH that leaves the lock in ACQUIRING. -/
theorem actLoadEpoch_of_starts {s : State} (h : s.EpochStarts) :
    LockMoved s s.actLoadEpoch.2
      { s.epochLoaded with
        state := .acquiring
        deadline := some (entryDeadline s.refRec.nextPulse s.time.now s.refRec.interval) }
      (if s.lock.state = .locked then s.status.events ||| 2#10 else s.status.events) s.status.counters
      (if s.lock.state = .acquiring then [] else [.device]) := by
  have hloaded := (LockMoved.refl s).withLock s.epochLoaded
  unfold State.EpochStarts at h
  unfold State.actLoadEpoch
  cases hs : s.lock.state with
  | free =>
    have hen : s.refRec.enable = true := by simpa [hs] using h
    simp only [hen]
    exact (hloaded.setLockState .acquiring).withLock _
  | acquiring =>
    have hsame (d : Option Nat) : ({ s.epochLoaded with state := .acquiring, deadline := d } : RefLock) =
        { s.epochLoaded with deadline := d } := by
      simp only [State.epochLoaded, ← hs]
    rw [hsame]
    exact hloaded.withLock _
  | locked =>
    exact (((hloaded.setLockState .acquiring).withLock _).latchDevice .unlocked).dedup (List.mem_singleton_self _)
  | holdover => simp [hs] at h

/-- What the command LOAD_EPOCH leaves, given what its action makes of the lock. -/
theorem exec_loadEpoch {s : State} {lock : RefLock} {events : BitVec 10} {queued : List RecordId}
    (hr : s.inReset = false) (h : LockMoved s s.actLoadEpoch.2 lock events s.status.counters queued) :
    ∃ t, exec (.loadEpoch 0) s = .next t ∧
      t = { s with decoder := t.decoder, lock := t.lock, status := t.status } ∧ t.lock = lock ∧
      ActionEcho s t 7 0 .done ∧ StatusBecomes s t events s.status.counters (.echo :: queued) := by
  have hdecoder : s.actLoadEpoch.2.decoder = s.decoder := by rw [h.frame]
  have hevent : event (fun s => s.takeAction (actionWord 7 0)) s =
      settle s (s.actLoadEpoch.2.endCommand .done fun e => e.withAction 7 0 .done) := by
    rw [event_live hr, takeAction_actionWord s 7 0 (by decide)]
    rfl
  refine ⟨_, congrArg Host.Outcome.next hevent, h.frame_endCommand _, ?_, ?_, h.closes_endCommand _⟩
  · rw [settle_lock, endCommand_lock, h.lock_eq]
  · simp only [ActionEcho, settle_decoder, endCommand_decoder, hdecoder, CommandEcho.withAction]

/-- Settles O23, by whether the lock is in ACQUIRING after the action. -/
theorem loadEpochMovesLockState : Obligations.LoadEpochMovesLockState := by
  intro s hr hinterval loaded starts
  by_cases hstarts : starts
  · obtain ⟨t, hexec, hframe, hlock, hecho, hstatus⟩ := exec_loadEpoch hr (actLoadEpoch_of_starts hstarts)
    obtain ⟨j, hnow, hnext, hdeadline⟩ := entryDeadline_spec s.refRec.nextPulse s.time.now hinterval
    refine ⟨t, hexec, hframe, absurd hstarts, fun _ => ⟨j, _, hlock, hnow, hnext, hdeadline⟩, hecho, ?_⟩
    rw [hlock]
    simpa only [eq_comm] using hstatus
  · obtain ⟨t, hexec, hframe, hlock, hecho, hstatus⟩ := exec_loadEpoch hr (actLoadEpoch_of_not_starts hstarts)
    refine ⟨t, hexec, hframe, fun _ => hlock, fun h => absurd h hstarts, hecho, ?_⟩
    rw [hlock, if_neg fun h => hstarts (.inr (.inl h))]
    simpa [State.epochLoaded] using hstatus

end Sys2Proof.Machine
end

-- The writes of the reference record (R107, R108).
section
namespace Sys2Proof.Machine

open Sys2Proof

/-! ### A DATA word directed to the reference record -/

/-- R152: what a DATA word leaves whose owner changes the reference record and moves the lock. -/
theorem event_takeData_reference {s o : State} {v : BitVec 64} {value : Nat} {x : RefRecord} {lock : RefLock}
    {more : List RecordId} (hr : s.inReset = false) (hsel : s.decoder.sel.target = .reference)
    (hvalue : clampData s.refRec s.decoder.sel v.toNat = value)
    (hoffer : (s.noteClamp (decide (value ≠ v.toNat))).offer s.decoder.sel value = (.done, o))
    (h : LockMoved ((s.noteClamp (decide (value ≠ v.toNat))).withRefRec x) o lock
      (s.noteClamp (decide (value ≠ v.toNat))).status.events s.status.counters more) :
    ∃ t, event (·.takeData v) s = t ∧
      t = { s with decoder := t.decoder, refRec := t.refRec, lock := t.lock, status := t.status } ∧
      t.refRec = x ∧ t.lock = lock ∧ DataTaken s t .done value (decide (value ≠ v.toNat)) more := by
  obtain ⟨y, hy⟩ : ∃ y, o = { s with refRec := x, lock := lock, status := y } := by
    refine ⟨o.status, h.frame.trans ?_⟩
    rw [noteClamp_frame]
    rfl
  have hevents := h.events.trans (noteClamp_events s _)
  have hmask := h.mask.trans (noteClamp_mask s _)
  have hsummary := h.summaryMask.trans (noteClamp_summaryMask s _)
  have hupdates (r : RecordId) : r ∈ o.status.updates ↔ r ∈ s.status.updates ∨
      (r = .device ∧ decide (value ≠ v.toNat) = true) ∨ r ∈ more :=
    (h.updates r).trans ((or_congr_left (mem_noteClamp s _ r)).trans or_assoc)
  refine ⟨_, event_takeData hr (by simp [hsel]) hvalue hoffer, ?_, ?_, ?_,
    dataTaken_end (by rw [hy]) hevents h.counters hmask hsummary hupdates⟩
  · rw [settle_frame, endCommand_frame, hy]
    rfl
  · rw [settle_refRec, endCommand_refRec, hy]
    rfl
  · rw [settle_lock, endCommand_lock, hy]
    rfl

/-! ### The fields beside enable (R107) -/

/-- Table 6-1: the ranges of the reference record's fields; the unlock window's begins at the lock window. -/
def refRanges (r : RefRecord) : List FieldRange :=
  [ ⟨0, 1, 1⟩, ⟨1000000, 1000000000, 1⟩, ⟨1, 1000000, 1⟩, ⟨r.lockWindow, 10000000, 1⟩
  , ⟨1000, 1000000000, 1⟩, ⟨0, 2 ^ 64 - 1, 1⟩ ]

theorem clamp_eq_store {lo hi : Nat} (h : lo ≤ hi) (v : Nat) : clamp lo hi v = FieldRange.store ⟨lo, hi, 1⟩ v := by
  simp only [clamp, FieldRange.store, Nat.div_one, Nat.mul_one]
  split
  · omega
  · split <;> omega

/-- Table 6-1: the value a field of the reference record stores, by the range of the field. -/
theorem clampRefField_eq_store {r : RefRecord} {k : Nat} (hk : k ≤ 5) (h : r.lockWindow ≤ 10000000) (v : Nat) :
    clampRefField r k v = ((refRanges r).getD k ⟨0, 0, 1⟩).store v := by
  match k, hk with
  | 0, _ | 1, _ | 2, _ | 4, _ | 5, _ => exact clamp_eq_store (by decide) v
  | 3, _ => exact clamp_eq_store h v

/-- R107: a value stored in a field other than enable is the number of that field, and a lock window above the unlock
window is the number of both. -/
theorem refSetField_numbers (r : RefRecord) {k : Nat} (hfirst : 1 ≤ k) (hlast : k ≤ 5) (v : Nat) :
    (r.setField k v).numbers =
      if k = 2 ∧ r.unlockWindow < v then (r.numbers.set 2 v).set 3 v else r.numbers.set k v := by
  match k, hfirst, hlast with
  | 1, _, _ | 3, _, _ | 4, _, _ | 5, _, _ => rfl
  | 2, _, _ =>
    by_cases hraise : r.unlockWindow < v
    · simp [RefRecord.setField, RefRecord.numbers, hraise, hraise.le]
    · simp [RefRecord.setField, RefRecord.numbers, hraise, not_lt.1 hraise]

/-- Settles O13: the owner stores the clamped value in the field. -/
theorem referenceFieldStoresClampedValue : Obligations.ReferenceFieldStoresClampedValue := by
  intro v s hr hsel hfirst hlast hwindow range stored
  have hvalue : clampData s.refRec s.decoder.sel v.toNat = stored := by
    rw [clampData, hsel]
    exact clampRefField_eq_store hlast hwindow v.toNat
  have hoffer (c : Bool) : (s.noteClamp c).offer s.decoder.sel stored =
      (.done, (s.noteClamp c).withRefRec (s.refRec.setField s.decoder.sel.next stored)) := by
    rw [State.offer, hsel]
    simp only [State.ownReference, if_neg (Nat.one_le_iff_ne_zero.1 hfirst), noteClamp_refRec]
  have hmoved (c : Bool) (x : RefRecord) : LockMoved ((s.noteClamp c).withRefRec x) ((s.noteClamp c).withRefRec x)
      s.lock (s.noteClamp c).status.events s.status.counters [] := by
    rw [← noteClamp_lock s c, ← noteClamp_counters s c]
    exact LockMoved.refl _
  obtain ⟨t, hevent, hframe, hrec, hlock, hdata⟩ :=
    event_takeData_reference hr hsel hvalue (hoffer _) (hmoved _ _)
  rw [hlock] at hframe
  refine ⟨t, congrArg Host.Outcome.next hevent, hframe, ?_, hdata⟩
  rw [hrec]
  exact refSetField_numbers s.refRec hfirst hlast stored

/-! ### The enable (R108) -/

/-- R108: the lock after a write of enable. -/
def State.enableLock (s : State) (on : Bool) : RefLock :=
  match on, s.lock.state, s.lock.epoch with
  | true, .free, some e =>
    { s.lock with state := .acquiring, good := 0, deadline := some (entryDeadline e s.time.now s.refRec.interval) }
  | true, _, _ => s.lock
  | false, .free, _ => s.lock
  | false, _, _ => { s.lock with state := .free, good := 0, rate := 0, trim := 0, deadline := none }

/-- R108: the state with enable written and stored. -/
def State.writeEnable (s : State) (on : Bool) : State := if on then s.enableRef else s.disableRef

section Enable

variable {s : State}

theorem enableLock_on_of_free {epoch : Nat} (hs : s.lock.state = .free) (he : s.lock.epoch = some epoch) :
    s.enableLock true =
      { s.lock with
        state := .acquiring, good := 0
        deadline := some (entryDeadline epoch s.time.now s.refRec.interval) } := by
  simp only [State.enableLock, hs, he]

theorem enableLock_on_stays (h : s.lock.state ≠ .free ∨ s.lock.epoch = none) : s.enableLock true = s.lock := by
  unfold State.enableLock
  split <;> simp_all

theorem enableLock_off_of_free (hs : s.lock.state = .free) : s.enableLock false = s.lock := by
  simp only [State.enableLock, hs]

theorem enableLock_off (hs : s.lock.state ≠ .free) :
    s.enableLock false = { s.lock with state := .free, good := 0, rate := 0, trim := 0, deadline := none } := by
  unfold State.enableLock
  split <;> simp_all

theorem setLockState_epoch (s : State) (x : LockState) : (s.setLockState x).lock.epoch = s.lock.epoch := rfl

/-- R108: enable 1 in FREE with an epoch loaded enters ACQUIRING. -/
theorem enableRef_enters {epoch : Nat} (hs : s.lock.state = .free) (he : s.lock.epoch = some epoch) :
    s.enableRef =
      ((s.withRefRec { s.refRec with enable := true }).setLockState .acquiring).setEntryDeadline := by
  simp [State.enableRef, hs, he]

theorem enableRef_stays (h : s.lock.state ≠ .free ∨ s.lock.epoch = none) :
    s.enableRef = s.withRefRec { s.refRec with enable := true } := by
  have hstays : (decide (s.lock.state = .free) && s.lock.epoch.isSome) = false := by
    rcases h with h | h <;> simp [h]
  rw [State.enableRef, hstays]
  rfl

@[simp] theorem noteClamp_enableLock (s : State) (c on : Bool) : (s.noteClamp c).enableLock on = s.enableLock on := by
  cases c <;> rfl

/-- R108, R109: a write of enable moves the lock, and queues the device record where the lock's state changes. -/
theorem writeEnable_moves (s : State) (on : Bool) :
    LockMoved (s.withRefRec { s.refRec with enable := on }) (s.writeEnable on) (s.enableLock on) s.status.events
      s.status.counters (if (s.enableLock on).state = s.lock.state then [] else [.device]) := by
  cases on with
  | true =>
    show LockMoved _ s.enableRef _ _ _ _
    by_cases hstays : s.lock.state ≠ .free ∨ s.lock.epoch = none
    · rw [enableRef_stays hstays, enableLock_on_stays hstays, if_pos rfl]
      exact LockMoved.refl _
    · obtain ⟨hs, hsome⟩ := not_or.1 hstays
      obtain ⟨epoch, he⟩ := Option.ne_none_iff_exists'.1 hsome
      have hs := not_not.1 hs
      rw [enableRef_enters hs he, enableLock_on_of_free hs he, hs, if_neg (by simp)]
      have hmoved := (LockMoved.refl (s.withRefRec { s.refRec with enable := true })).setLockState .acquiring
      rw [State.setEntryDeadline, setLockState_epoch, withRefRec_lock, he]
      exact hmoved.withLock _
  | false =>
    show LockMoved _ s.disableRef _ _ _ _
    by_cases hs : s.lock.state = .free
    · rw [State.disableRef, if_pos hs, enableLock_off_of_free hs, if_pos rfl]
      exact LockMoved.refl _
    · rw [State.disableRef, if_neg hs, enableLock_off hs, if_neg (Ne.symm hs)]
      exact ((LockMoved.refl (s.withRefRec { s.refRec with enable := false })).setLockState .free).withLock _

end Enable

/-- Settles O14: the owner stores enable, and the lock moves with it. -/
theorem referenceEnableMovesLockState : Obligations.ReferenceEnableMovesLockState := by
  intro v s hr hsel hinterval
  let value := min 1 v.toNat
  have hzero : value = 0 ↔ v = 0 := by
    rw [← BitVec.toNat_inj]
    show min 1 v.toNat = 0 ↔ v.toNat = 0
    omega
  have hvalue : clampData s.refRec s.decoder.sel v.toNat = value := by
    rw [clampData, hsel]
    simp only [clampRefField, clamp, value]
    omega
  have hclamped : decide (value ≠ v.toNat) = decide (1 < v.toNat) :=
    decide_eq_decide.2 (by simp only [value]; omega)
  have hoffer (c : Bool) : (s.noteClamp c).offer s.decoder.sel value =
      (.done, (s.noteClamp c).writeEnable (decide (v ≠ 0))) := by
    rw [State.offer, hsel]
    by_cases hv : v = 0
    · simp [State.ownReference, State.writeEnable, hv, hzero.2 hv]
    · have hv' : v ≠ 0#64 := hv
      simp [State.ownReference, State.writeEnable, hv', mt hzero.1 hv]
  have hmoved (c : Bool) := writeEnable_moves (s.noteClamp c) (decide (v ≠ 0))
  simp only [noteClamp_enableLock, noteClamp_lock, noteClamp_refRec, noteClamp_counters] at hmoved
  obtain ⟨t, hevent, hframe, hrec, hlock, hdata⟩ :=
    event_takeData_reference hr (by rw [hsel]) hvalue (hoffer _) (hmoved _)
  rw [hrec] at hframe
  refine ⟨t, congrArg Host.Outcome.next hevent, hframe, fun hv hs epoch he => ?_, fun hv h => ?_, fun hv hs => ?_,
    fun hv hs => ?_, by rw [hlock, ← hclamped]; exact hdata⟩
  · obtain ⟨j, hnow, hnext, hdeadline⟩ := entryDeadline_spec epoch s.time.now hinterval
    refine ⟨j, _, ?_, hnow, hnext, hdeadline⟩
    rw [hlock, decide_eq_true hv, enableLock_on_of_free hs he]
  · rw [hlock, decide_eq_true hv, enableLock_on_stays h]
  · rw [hlock, decide_eq_false (not_not.2 hv), enableLock_off_of_free hs]
  · rw [hlock, decide_eq_false (not_not.2 hv), enableLock_off hs]

end Sys2Proof.Machine
end

-- A pulse on the REF pin (R110 to R116).
section
namespace Sys2Proof.Machine

open Sys2Proof

/-! ### The nearest expected pulse (R110) -/

/-- R110: a pulse lies within half an interval of the expected pulse of its index. -/
theorem pulse_error_bounds {c epoch interval : Nat} {err : Int} (h : 0 < interval)
    (herr : err = c - pulseExpected epoch interval (pulseIndex c epoch interval)) :
    -(interval : Int) ≤ 2 * err ∧ 2 * err < interval := by
  have hpos : (0 : Int) < 2 * interval := by omega
  let q : Int := pulseIndex c epoch interval
  have hq : q = (2 * ((c : Int) - epoch) + interval) / (2 * interval) := Int.fdiv_eq_ediv_of_nonneg _ hpos.le
  have hle : q * (2 * interval) ≤ 2 * ((c : Int) - epoch) + interval := hq ▸ Int.ediv_mul_le _ hpos.ne'
  have hlt : 2 * ((c : Int) - epoch) + interval < (q + 1) * (2 * interval) :=
    hq ▸ Int.lt_ediv_add_one_mul_self _ hpos
  have hdouble : q * (2 * interval) = 2 * (q * interval) := Int.mul_left_comm _ _ _
  rw [add_mul, one_mul, hdouble] at hlt
  rw [hdouble] at hle
  have herr' : err = c - (epoch + q * interval) := herr
  omega

/-! ### What a pulse that is taken sets (R110 to R112) -/

/-- R111, R115: the state once a new pulse of index `k`, error `err` and expected value `e` has been counted and its
index, error and deadline set. -/
def State.pulseSeen (s : State) (k err e : Int) : State :=
  ((s.countDevice .pulsesTaken).queueRecord .device).withLock (s.lock.takeNew k err e s.refRec.interval)

/-- R111, R112: the lock of a new pulse, its trim and rate corrected. -/
def State.pulledLock (s : State) (k err e : Int) : RefLock :=
  (s.lock.takeNew k err e s.refRec.interval).piUpdate err s.refRec.interval

/-- R110, R111: a pulse that is taken, by whether its index is the last taken. -/
theorem refPulse_taken {s : State} {epoch : Nat} {k e err : Int} (hs : s.lock.state ≠ .free)
    (hepoch : s.lock.epoch = some epoch) (hk : k = pulseIndex s.time.now epoch s.refRec.interval)
    (he : e = pulseExpected epoch s.refRec.interval k) (herr : err = s.time.now - e) :
    s.refPulse =
      if s.lock.lastIndex = some k then
        (((s.countDevice .pulsesTaken).queueRecord .device).latchDevice .pulseDup).countDevice .duplicatePulses
      else (s.pulseSeen k err e).newPulse err e := by
  subst herr he hk
  unfold State.refPulse
  rw [hepoch]
  split
  · next h => exact absurd h hs
  · next h _ => simp at h
  · next x h _ =>
    obtain rfl : epoch = x := Option.some.inj h
    rfl

theorem refPulse_free {s : State} (hs : s.lock.state = .free) : s.refPulse = s := by
  rw [State.refPulse, hs]

section Pulse

variable {s : State} {k err e : Int}

/-- R110: a pulse that is taken is counted, and the device record queued. -/
theorem pulseCounted_moves (s : State) : LockMoved s ((s.countDevice .pulsesTaken).queueRecord .device) s.lock
    s.status.events (bump s.status.counters 5) [.device] :=
  ((LockMoved.refl s).countDevice .pulsesTaken).queueRecord .device

/-- R111: a duplicate is latched and counted. -/
theorem pulseDuplicate_moves (s : State) : LockMoved s
    ((((s.countDevice .pulsesTaken).queueRecord .device).latchDevice .pulseDup).countDevice .duplicatePulses)
    s.lock (s.status.events ||| 16#10) (bump (bump s.status.counters 5) 6) [.device] :=
  (((pulseCounted_moves s).latchDevice .pulseDup).dedup (List.mem_singleton_self _)).countDevice .duplicatePulses

theorem pulseSeen_moves (s : State) (k err e : Int) : LockMoved s (s.pulseSeen k err e)
    (s.lock.takeNew k err e s.refRec.interval) s.status.events (bump s.status.counters 5) [.device] :=
  (pulseCounted_moves s).withLock _

@[simp] theorem pulseSeen_state : (s.pulseSeen k err e).lock.state = s.lock.state := rfl

/-- R112: the PI update of a new pulse. -/
theorem piPulse_moves (s : State) (k err e : Int) : LockMoved s ((s.pulseSeen k err e).piPulse err)
    (s.pulledLock k err e) s.status.events (bump s.status.counters 5) [.device] :=
  (pulseSeen_moves s k err e).withLock _

/-! ### The step (R113) -/

/-- R113: when a step is taken in ACQUIRING. -/
theorem stepTaken_pulseSeen_iff : (s.pulseSeen k err e).stepTaken err e = true ↔
    (s.refRec.stepThreshold : Int) < |err| ∧ (∀ i, (s.stream i).state = .idle) ∧ 0 ≤ e ∧ e ≤ 2 ^ 64 - 1 := by
  have hidle : (s.pulseSeen k err e).allIdle = true ↔ ∀ i, (s.stream i).state = .idle := allIdle_iff _
  have htop : (top64 : Int) = 2 ^ 64 - 1 := by decide
  have hrec : (s.pulseSeen k err e).refRec = s.refRec := rfl
  simp only [State.stepTaken, Bool.and_eq_true, decide_eq_true_eq, hidle, htop, hrec, Int.abs_eq_natAbs,
    Nat.cast_lt, and_assoc]

theorem newPulse_of_step (hs : s.lock.state = .acquiring)
    (h : (s.pulseSeen k err e).stepTaken err e = true) :
    (s.pulseSeen k err e).newPulse err e = (s.pulseSeen k err e).stepTime err := by
  rw [State.newPulse, pulseSeen_state, hs]
  exact if_pos h

/-- R113: what a step leaves beside the Status Writer. -/
theorem stepTime_pulseSeen (s : State) (k err e : Int) :
    let t := (s.pulseSeen k err e).stepTime err
    t = { s with time := t.time, paths := t.paths, lock := t.lock, status := t.status } ∧
      t.time = { s.time with now := ((s.time.now : Int) - err).toNat } ∧
      (∀ q, t.paths.get q =
        { s.paths.get q with busyUntil := (((s.paths.get q).busyUntil : Int) - err).toNat }) ∧
      t.lock = { s.lock.takeNew k err e s.refRec.interval with good := 0 } := by
  obtain ⟨x, hx⟩ : ∃ x, s.pulseSeen k err e =
      { s with lock := s.lock.takeNew k err e s.refRec.interval, status := x } :=
    ⟨_, (pulseSeen_moves s k err e).frame⟩
  rw [hx]
  refine ⟨rfl, rfl, fun q => ?_, rfl⟩
  cases q <;> rfl

/-- R113: a step latches STEPPED. -/
theorem stepTime_statusBecomes (s : State) (k err e : Int) :
    StatusBecomes s (settle s ((s.pulseSeen k err e).stepTime err)) (s.status.events ||| 8#10)
      (bump s.status.counters 5) [.device] := by
  have hseen := pulseSeen_moves s k err e
  refine ⟨?_, hseen.counters, hseen.mask, hseen.summaryMask, settle_closes fun r => ?_⟩
  · exact congrArg (· ||| 8#10) hseen.events
  · have hstep : r ∈ ((s.pulseSeen k err e).stepTime err).status.updates ↔
        r ∈ (s.pulseSeen k err e).status.updates ∨ r = .device := mem_latchDevice _
    rw [hstep, hseen.updates, or_assoc, List.mem_singleton, or_self]

/-! ### The judgement (R114) -/

theorem newPulse_of_acquiring (hs : s.lock.state = .acquiring)
    (h : (s.pulseSeen k err e).stepTaken err e = false) :
    (s.pulseSeen k err e).newPulse err e = ((s.pulseSeen k err e).piPulse err).judgeAcquiring err := by
  rw [State.newPulse, pulseSeen_state, hs]
  exact if_neg (by simp [h])

theorem newPulse_of_locked (hs : s.lock.state = .locked) :
    (s.pulseSeen k err e).newPulse err e = ((s.pulseSeen k err e).piPulse err).judgeLocked err := by
  rw [State.newPulse, pulseSeen_state, hs]

theorem newPulse_of_holdover (hs : s.lock.state = .holdover) :
    (s.pulseSeen k err e).newPulse err e = ((s.pulseSeen k err e).piPulse err).setLockState .acquiring := by
  rw [State.newPulse, pulseSeen_state, hs]

section Judgement

variable {u : State}

theorem judgeAcquiring_of_fourth (hnear : |err| ≤ u.refRec.lockWindow) (hgood : u.lock.good = 3) :
    u.judgeAcquiring err = (u.setLockState .locked).latchDevice .locked := by
  have hnear : err.natAbs ≤ u.refRec.lockWindow := by rw [Int.abs_eq_natAbs] at hnear; omega
  simp [State.judgeAcquiring, hnear, hgood]

theorem judgeAcquiring_of_near (hnear : |err| ≤ u.refRec.lockWindow) (hgood : u.lock.good < 3) :
    u.judgeAcquiring err = u.withLock { u.lock with good := u.lock.good + 1 } := by
  have hnear : err.natAbs ≤ u.refRec.lockWindow := by rw [Int.abs_eq_natAbs] at hnear; omega
  simp [State.judgeAcquiring, hnear, hgood.ne]

theorem judgeAcquiring_of_far (hfar : (u.refRec.lockWindow : Int) < |err|) :
    u.judgeAcquiring err = u.withLock { u.lock with good := 0 } := by
  have hfar : ¬err.natAbs ≤ u.refRec.lockWindow := by rw [Int.abs_eq_natAbs] at hfar; omega
  simp [State.judgeAcquiring, hfar]

theorem judgeLocked_of_past (hpast : (u.refRec.unlockWindow : Int) < |err|) :
    u.judgeLocked err = (u.setLockState .acquiring).latchDevice .unlocked := by
  refine if_pos ?_
  rw [Int.abs_eq_natAbs] at hpast
  omega

theorem judgeLocked_of_within (hwithin : |err| ≤ u.refRec.unlockWindow) : u.judgeLocked err = u := by
  refine if_neg ?_
  rw [Int.abs_eq_natAbs] at hwithin
  omega

end Judgement

/-- R114: the fourth good pulse in a row locks. -/
theorem newPulse_locks (hs : s.lock.state = .acquiring) (hstep : (s.pulseSeen k err e).stepTaken err e = false)
    (hnear : |err| ≤ s.refRec.lockWindow) (hgood : s.lock.good = 3) :
    LockMoved s ((s.pulseSeen k err e).newPulse err e) { s.pulledLock k err e with state := .locked, good := 0 }
      (s.status.events ||| 1#10) (bump s.status.counters 5) [.device] := by
  rw [newPulse_of_acquiring hs hstep, judgeAcquiring_of_fourth (u := (s.pulseSeen k err e).piPulse err) hnear hgood]
  exact ((((piPulse_moves s k err e).setLockState .locked).dedup (List.mem_singleton_self _)).latchDevice
    .locked).dedup (List.mem_singleton_self _)

/-- R114: a good pulse before the fourth is counted. -/
theorem newPulse_good (hs : s.lock.state = .acquiring) (hstep : (s.pulseSeen k err e).stepTaken err e = false)
    (hnear : |err| ≤ s.refRec.lockWindow) (hgood : s.lock.good < 3) :
    LockMoved s ((s.pulseSeen k err e).newPulse err e)
      { s.pulledLock k err e with good := s.lock.good + 1 } s.status.events (bump s.status.counters 5)
      [.device] := by
  rw [newPulse_of_acquiring hs hstep, judgeAcquiring_of_near (u := (s.pulseSeen k err e).piPulse err) hnear hgood]
  exact (piPulse_moves s k err e).withLock _

/-- R114: a pulse outside the lock window begins the count of good pulses anew. -/
theorem newPulse_far (hs : s.lock.state = .acquiring) (hstep : (s.pulseSeen k err e).stepTaken err e = false)
    (hfar : (s.refRec.lockWindow : Int) < |err|) :
    LockMoved s ((s.pulseSeen k err e).newPulse err e) { s.pulledLock k err e with good := 0 } s.status.events
      (bump s.status.counters 5) [.device] := by
  rw [newPulse_of_acquiring hs hstep, judgeAcquiring_of_far (u := (s.pulseSeen k err e).piPulse err) hfar]
  exact (piPulse_moves s k err e).withLock _

/-- R114: an error past the unlock window unlocks. -/
theorem newPulse_unlocks (hs : s.lock.state = .locked) (hpast : (s.refRec.unlockWindow : Int) < |err|) :
    LockMoved s ((s.pulseSeen k err e).newPulse err e)
      { s.pulledLock k err e with state := .acquiring, good := 0 } (s.status.events ||| 2#10)
      (bump s.status.counters 5) [.device] := by
  rw [newPulse_of_locked hs, judgeLocked_of_past (u := (s.pulseSeen k err e).piPulse err) hpast]
  exact ((((piPulse_moves s k err e).setLockState .acquiring).dedup (List.mem_singleton_self _)).latchDevice
    .unlocked).dedup (List.mem_singleton_self _)

theorem newPulse_stays_locked (hs : s.lock.state = .locked) (hwithin : |err| ≤ s.refRec.unlockWindow) :
    LockMoved s ((s.pulseSeen k err e).newPulse err e) (s.pulledLock k err e) s.status.events
      (bump s.status.counters 5) [.device] := by
  rw [newPulse_of_locked hs, judgeLocked_of_within (u := (s.pulseSeen k err e).piPulse err) hwithin]
  exact piPulse_moves s k err e

/-- R114: a new pulse takes HOLDOVER to ACQUIRING. -/
theorem newPulse_leaves_holdover (hs : s.lock.state = .holdover) :
    LockMoved s ((s.pulseSeen k err e).newPulse err e)
      { s.pulledLock k err e with state := .acquiring, good := 0 } s.status.events (bump s.status.counters 5)
      [.device] := by
  rw [newPulse_of_holdover hs]
  exact ((piPulse_moves s k err e).setLockState .acquiring).dedup (List.mem_singleton_self _)

/-! ### What a pulse leaves alone -/

/-- R112 to R114: a new pulse for which no step is taken leaves all but the lock and the Status Writer. -/
theorem newPulse_leaves (h : s.lock.state = .acquiring → (s.pulseSeen k err e).stepTaken err e = false) :
    ∃ l x, (s.pulseSeen k err e).newPulse err e = { s with lock := l, status := x } := by
  let t := (s.pulseSeen k err e).newPulse err e
  have hframe : t = { s.pulseSeen k err e with lock := t.lock, status := t.status } := newPulse_frame h
  exact ⟨t.lock, t.status, hframe⟩

/-- R110 to R116: a pulse leaves all but the time base, the paths, the lock and the Status Writer. -/
theorem newPulse_only (s : State) (k err e : Int) : ∃ x y l z,
    (s.pulseSeen k err e).newPulse err e = { s with time := x, paths := y, lock := l, status := z } := by
  by_cases h : s.lock.state = .acquiring ∧ (s.pulseSeen k err e).stepTaken err e = true
  · rw [newPulse_of_step h.1 h.2]
    exact ⟨_, _, _, _, (stepTime_pulseSeen s k err e).1⟩
  · obtain ⟨l, z, hleft⟩ := newPulse_leaves fun hs => Bool.eq_false_iff.2 fun hstep => h ⟨hs, hstep⟩
    exact ⟨_, _, l, z, hleft⟩

end Pulse

/-- A pulse that is not taken leaves the state, and closes as an event that queues nothing. -/
theorem refPulse_free_leaves {s : State} (hr : s.inReset = false) (hs : s.lock.state = .free) :
    exec .refPulse s = .next (settle s s) := by
  show Host.Outcome.next (event State.refPulse s) = _
  rw [event_live hr, refPulse_free hs]

/-- Settles O42: a taken pulse by whether it is a duplicate, whether a step is taken, and by the lock state. -/
theorem pulseCorrectsAndIsJudged : Obligations.PulseCorrectsAndIsJudged := by
  refine ⟨fun s hr hs => ⟨_, refPulse_free_leaves hr hs, rfl, statusBecomes_of_status rfl⟩, ?_⟩
  intro s epoch hr hs hepoch hinterval hgood ref counted
  obtain ⟨k, hk⟩ : ∃ k, k = pulseIndex s.time.now epoch s.refRec.interval := ⟨_, rfl⟩
  obtain ⟨e, he⟩ : ∃ e, e = pulseExpected epoch s.refRec.interval k := ⟨_, rfl⟩
  obtain ⟨err, herr⟩ : ∃ err : Int, err = s.time.now - e := ⟨_, rfl⟩
  obtain ⟨hlo, hhi⟩ := pulse_error_bounds hinterval (hk ▸ he ▸ herr)
  have hexec : exec .refPulse s = .next (settle s s.refPulse) := congrArg Host.Outcome.next (event_live hr _)
  have hpulse := refPulse_taken hs hepoch hk he herr
  obtain ⟨x, y, l, z, honly⟩ :
      ∃ x y l z, s.refPulse = { s with time := x, paths := y, lock := l, status := z } := by
    rw [hpulse]
    split
    · exact ⟨_, _, _, _, (pulseDuplicate_moves s).frame⟩
    · exact newPulse_only s k err e
  refine ⟨_, k, e, err, hexec, by rw [settle_frame, honly], he, herr, hlo, hhi, ?_⟩
  intro ppb trim rate seen pulled steps
  have hstep : s.lock.state = .acquiring → ((s.pulseSeen k err e).stepTaken err e = true ↔ steps) := fun h => by
    rw [stepTaken_pulseSeen_iff]
    exact (and_iff_right h).symm
  rw [hpulse]
  refine ⟨fun hdup => ?_, fun hnew hsteps => ?_, fun hnew hsteps => ?_⟩
  · rw [if_pos hdup]
    have hmoved := pulseDuplicate_moves s
    exact ⟨by rw [hmoved.settle_eq], by rw [hmoved.settle_eq], hmoved.lock_eq, hmoved.closes⟩
  · rw [if_neg hnew, newPulse_of_step hsteps.1 ((hstep hsteps.1).2 hsteps)]
    obtain ⟨_, htime, hpaths, hlock⟩ := stepTime_pulseSeen s k err e
    have hnow : (s.time.now : Int) - err = e := by omega
    exact ⟨hnow ▸ htime, hpaths, hlock, stepTime_statusBecomes s k err e⟩
  · rw [if_neg hnew]
    have hno (h : s.lock.state = .acquiring) : (s.pulseSeen k err e).stepTaken err e = false :=
      Bool.eq_false_iff.2 (mt (hstep h).1 hsteps)
    obtain ⟨l, x, hleft⟩ := newPulse_leaves hno
    have leaves {l : RefLock} {ev : BitVec 10}
        (h : LockMoved s ((s.pulseSeen k err e).newPulse err e) l ev counted [.device]) :
        (settle s ((s.pulseSeen k err e).newPulse err e)).lock = l ∧
          StatusBecomes s (settle s ((s.pulseSeen k err e).newPulse err e)) ev counted [.device] :=
      ⟨h.lock_eq, h.closes⟩
    exact ⟨by rw [settle_time, hleft], by rw [settle_paths, hleft],
      fun h hn hg => leaves (newPulse_locks h (hno h) hn hg),
      fun h hn hg => leaves (newPulse_good h (hno h) hn hg), fun h hf => leaves (newPulse_far h (hno h) hf),
      fun h hp => leaves (newPulse_unlocks h hp), fun h hw => leaves (newPulse_stays_locked h hw),
      fun h => leaves (newPulse_leaves_holdover h)⟩

end Sys2Proof.Machine
end
